-- ==== Sys2Proof/Word.lean ====
section
/-! DEFINITION. The words of the block (bytes, 16-bit and 32-bit values) and `Bank`, a fixed number of
like cells held as plain data. -/

namespace Sys2Proof

/-- One data byte of a frame or group. -/
abbrev Byte := BitVec 8
/-- A 16-bit value of a frame, entry or notice detail. -/
abbrev Half := BitVec 16
/-- A 32-bit value: time counts, sensor IDs, item values. -/
abbrev Word := BitVec 32

/-- A fixed number `n` of like cells (channels, groups, wheels, slots), as plain data. -/
structure Bank (α : Type) (n : Nat) where
  /-- the cells in index order -/
  cells : List α
  /-- there are exactly `n` of them -/
  size : cells.length = n
  deriving DecidableEq, Repr

namespace Bank

variable {α β : Type} {n : Nat}

/-- The cell at an index. -/
def read (b : Bank α n) (i : Fin n) : α := b.cells.get (i.cast b.size.symm)

/-- The bank with one cell replaced. -/
def write (b : Bank α n) (i : Fin n) (x : α) : Bank α n :=
  ⟨b.cells.set i.val x, by rw [List.length_set]; exact b.size⟩

/-- Every cell holds `x`. -/
def fill (n : Nat) (x : α) : Bank α n := ⟨List.replicate n x, List.length_replicate⟩

/-- Cell `i` holds `f i`. -/
def ofFn (f : Fin n → α) : Bank α n := ⟨List.ofFn f, List.length_ofFn⟩

/-- Every cell through `f`. -/
def map (f : α → β) (b : Bank α n) : Bank β n := ⟨b.cells.map f, by rw [List.length_map]; exact b.size⟩

/-- Some cell satisfies `p`. -/
def any (b : Bank α n) (p : α → Bool) : Bool := b.cells.any p

/-- Every cell satisfies `p`. -/
def all (b : Bank α n) (p : α → Bool) : Bool := b.cells.all p

end Bank

/-- The indices 0..n-1 in ascending order. -/
def indices (n : Nat) : List (Fin n) := List.ofFn id

end Sys2Proof
end

