-- ==== Sys2Proof/Syntax.lean ====
section
/-! DEFINITION. The commands of the block: one constructor of `Instr` per row of spec/opcode_table.json,
with the row's operands as the layouts of 13_message_and_record_layouts.md name them. -/

namespace Sys2Proof

/-- The three CAN ports (R1). -/
inductive Port where
  | fl | rl | wb
  deriving DecidableEq, Repr

/-- The two ports a management request arrives on, one assembly buffer each (R172). -/
inductive Source where
  | fl | wb
  deriving DecidableEq, Repr

/-- A pin or accepted level (R39). -/
inductive Level where
  | low | high
  deriving DecidableEq, Repr

/-- The two filtered discrete inputs (R39). -/
inductive Pin where
  | supply | park
  deriving DecidableEq, Repr

/-- The identifier fields of a frame other than its kind (R3). -/
structure Header where
  priority : BitVec 3
  hop : BitVec 3
  target : BitVec 3
  origin : BitVec 3
  selector : BitVec 12
  deriving DecidableEq, Repr

/-- The forms a received CAN frame can have (R2). -/
inductive FrameForm where
  /-- a data frame with a 29-bit identifier -/
  | extended
  /-- a frame with an 11-bit identifier -/
  | standard
  /-- a remote frame -/
  | remote
  deriving DecidableEq, Repr

/-- One received CAN frame: its form, its identifier bits (R196) and its data bytes. -/
structure BusFrame where
  form : FrameForm
  ident : BitVec 29
  data : List Byte
  deriving DecidableEq, Repr

/-- The fields of a WRITE ENTRY on ROUTE as packed (R13, R199). -/
structure RouteFields where
  port : Byte
  kind : Byte
  relation : Byte
  consumer : Byte
  forward : Byte
  deriving DecidableEq, Repr

/-- The fields of a WRITE ENTRY on GROUP as packed (R62, R195). -/
structure GroupFields where
  configured : Byte
  rated : Half
  emptyKnee : Half
  ladenKnee : Half
  emptyRatio : Half
  threshold : Byte
  capPresent : Byte
  cap : Half
  deriving DecidableEq, Repr

/-- The fields of a WRITE ENTRY on WHEEL as packed (R99, R195). -/
structure WheelFields where
  configured : Byte
  group : Byte
  axle : Byte
  side : Byte
  placement : Byte
  idPresent : Byte
  sensorId : Word
  nominal : Half
  deriving DecidableEq, Repr

/-- The fields of a WRITE ENTRY on STATUS FIELD as packed (R160, R195). -/
structure StatusFieldFields where
  source : Byte
  value : Half
  change : Byte
  deriving DecidableEq, Repr

/-- The fields of a WRITE ENTRY on NOTICE as packed (R152, R195). -/
structure NoticeFields where
  message : Byte
  lamp : Byte
  deriving DecidableEq, Repr

/-- The two GROUPS parameters (R64), items 0x100 and 0x101. -/
inductive GroupsParam where
  | fallbackRatio | ceiling
  deriving DecidableEq, Repr

/-- The stability parameters in the order of R123, items 0x110 to 0x121. -/
inductive StabParam where
  | enable | vGate | mWatch | mTest | mInt | hysteresis | pTest | tPulse | tRep | liftSlip
  | pIntStart | rampUp | pIntMax | rampDown | tMinInt | dLow | dDefl | order
  deriving DecidableEq, Repr

/-- The tyre settings in the order of R101, items 0x130 to 0x134. -/
inductive TyreSetting where
  | qLow | qDefl | qHigh | leak | missing
  deriving DecidableEq, Repr

/-- The FILTERS items 0x140 to 0x143 (R177). -/
inductive FilterItem where
  | supplyFilter | supplyPolarity | parkFilter | parkPolarity
  deriving DecidableEq, Repr

/-- The STATUS intervals, items 0x150 and 0x151 (R166). -/
inductive IntervalItem where
  | minimum | periodic
  deriving DecidableEq, Repr

/-- The rear match settings, items 0x152 and 0x153 (R167). -/
inductive RearItem where
  | mask | polarity
  deriving DecidableEq, Repr

/-- The NOTICE enable items 0x200 and 0x201 (R152). -/
inductive EnableItem where
  | message | lamp
  deriving DecidableEq, Repr

/-- The snapshot settings, items 0x210 and 0x211 (R155). -/
inductive SnapItem where
  | mode | mask
  deriving DecidableEq, Repr

/-- A management request with its parameters, as a correct group carries it (R175, R199). The entry
fields are the packed bytes, so that every range check of the spec is the model's. -/
inductive Request where
  | readItem (item : Half) (index : Byte)
  | writeItem (item : Half) (index : Byte) (value : Word)
  | swapItem (item : Half) (index : Byte) (expected new : Word)
  | readEntry (table : Byte) (index : Byte)
  | writeRoute (f : RouteFields)
  | writeGroup (index : Byte) (f : GroupFields)
  | writeCurve (index : Byte) (points : List (Half × Half))
  | writeWheel (index : Byte) (f : WheelFields)
  | writeCritical (index : Byte) (points : List (Half × Half))
  | writeStatusField (index : Byte) (f : StatusFieldFields)
  | writeNotice (index : Byte) (f : NoticeFields)
  | eraseEntry (table : Byte) (index : Byte)
  | enterMaintenance
  | leaveMaintenance
  | storeTables
  | restart
  | checkPath
  | learnWheel (position : Byte)
  | cancelLearn
  | readNotice (kind : Byte)
  | clearNotice (kind : Byte)
  | readSnapshot (index : Byte)
  | clearSnapshots
  deriving DecidableEq, Repr

/-- The commands, in the order of spec/opcode_table.json. A request row carries its source port `src`
and its tag; a frame row carries the frame's identifier fields and data bytes. -/
inductive Instr where
  | powerOn
  | endOfStart (supplyPin parkPin : Level)
  | busOff (port : Port)
  | portOn (port : Port)
  | frameReceived (port : Port) (frame : BusFrame)
  | demand (hdr : Header) (data : List Byte)
  | statusFromRear (hdr : Header) (data : List Byte)
  | speedSample (hdr : Header) (data : List Byte)
  | bellowsSample (hdr : Header) (data : List Byte)
  | motionSample (hdr : Header) (data : List Byte)
  | airSample (hdr : Header) (data : List Byte)
  | feedbackSample (hdr : Header) (data : List Byte)
  | tyreReport (hdr : Header) (data : List Byte)
  | manageRequestSegment (src : Source) (hdr : Header) (data : List Byte)
  | readItem (src : Source) (tag : Byte) (item : Half) (index : Byte)
  | writeItem (src : Source) (tag : Byte) (item : Half) (index : Byte) (value : Word)
  | swapItem (src : Source) (tag : Byte) (item : Half) (index : Byte) (expected new : Word)
  | writeRouteUsedFlagItem (src : Source) (tag : Byte) (index : Byte) (value : Word)
  | writeGroupsParameter (src : Source) (tag : Byte) (param : GroupsParam) (index : Byte) (value : Word)
  | writeStabilityParameter (src : Source) (tag : Byte) (param : StabParam) (index : Byte) (value : Word)
  | writeTyreSetting (src : Source) (tag : Byte) (setting : TyreSetting) (index : Byte) (value : Word)
  | writeFilterSetting (src : Source) (tag : Byte) (setting : FilterItem) (index : Byte) (value : Word)
  | writeStatusInterval (src : Source) (tag : Byte) (interval : IntervalItem) (index : Byte) (value : Word)
  | writeRearMatchSetting (src : Source) (tag : Byte) (setting : RearItem) (index : Byte) (value : Word)
  | writeNoticeEnable (src : Source) (tag : Byte) (enable : EnableItem) (index : Byte) (value : Word)
  | writeSnapshotSetting (src : Source) (tag : Byte) (setting : SnapItem) (index : Byte) (value : Word)
  | readEntryRoute (src : Source) (tag : Byte) (slot : Byte)
  | writeEntryRoute (src : Source) (tag : Byte) (fields : RouteFields)
  | eraseEntryRoute (src : Source) (tag : Byte) (slot : Byte)
  | readEntryGroup (src : Source) (tag : Byte) (index : Byte)
  | writeEntryGroup (src : Source) (tag : Byte) (index : Byte) (fields : GroupFields)
  | eraseEntryGroup (src : Source) (tag : Byte) (index : Byte)
  | readEntryCurve (src : Source) (tag : Byte) (index : Byte)
  | writeEntryCurve (src : Source) (tag : Byte) (index : Byte) (points : List (Half × Half))
  | eraseEntryCurve (src : Source) (tag : Byte) (index : Byte)
  | readEntryWheel (src : Source) (tag : Byte) (index : Byte)
  | writeEntryWheel (src : Source) (tag : Byte) (index : Byte) (fields : WheelFields)
  | eraseEntryWheel (src : Source) (tag : Byte) (index : Byte)
  | readEntryCritical (src : Source) (tag : Byte) (index : Byte)
  | writeEntryCritical (src : Source) (tag : Byte) (index : Byte) (points : List (Half × Half))
  | eraseEntryCritical (src : Source) (tag : Byte) (index : Byte)
  | readEntryStatusField (src : Source) (tag : Byte) (index : Byte)
  | writeEntryStatusField (src : Source) (tag : Byte) (index : Byte) (fields : StatusFieldFields)
  | eraseEntryStatusField (src : Source) (tag : Byte) (index : Byte)
  | readEntryNotice (src : Source) (tag : Byte) (index : Byte)
  | writeEntryNotice (src : Source) (tag : Byte) (index : Byte) (fields : NoticeFields)
  | eraseEntryNotice (src : Source) (tag : Byte) (index : Byte)
  | enterMaintenance (src : Source) (tag : Byte)
  | leaveMaintenance (src : Source) (tag : Byte)
  | storeTables (src : Source) (tag : Byte)
  | restart (src : Source) (tag : Byte)
  | checkPath (src : Source) (tag : Byte)
  | learnWheel (src : Source) (tag : Byte) (position : Byte)
  | cancelLearn (src : Source) (tag : Byte)
  | readNotice (src : Source) (tag : Byte) (kind : Byte)
  | clearNotice (src : Source) (tag : Byte) (kind : Byte)
  | readSnapshot (src : Source) (tag : Byte) (index : Byte)
  | clearSnapshots (src : Source) (tag : Byte)
  | transmissionAttemptStart (port : Port)
  | transmissionSucceeded (port : Port)
  | transmissionFailed (port : Port)
  | flSilence
  | rlSilence
  | staleTimerExpiry (record : Fin 18)
  | stationaryTimerExpiry
  | supplyAccepted (level : Level)
  | parkAccepted (level : Level)
  | demandTimeout
  | refreshTimerExpiry (channel : Fin 6)
  | deviationTimerExpiry (channel : Fin 6)
  | stepTimerExpiry
  | secondTick
  | missingTimerExpiry (wheel : Fin 24)
  | learnTimeout
  | pulseTimerExpiry
  | testTimerExpiry
  | minimumTimerExpiry
  | releaseTimerExpiry
  | statusMinimumTimerExpiry
  | statusPeriodicTimerExpiry
  | assemblyTimerExpiry (src : Source)
  | restartTimerExpiry
  | storeWriteComplete
  | storeWriteFailure
  | storeTimeLimitExpiry
  | inputFilterSample (pin : Pin) (level : Level)
  deriving DecidableEq, Repr

end Sys2Proof
end

