-- ==== Sys2Proof/Config.lean ====
section
/-! DEFINITION. The fixed numbers of the spec: durations in milliseconds, limits and thresholds, each
with the rule that states it. The spec leaves no value open that would need a free constant (log 20). -/

namespace Sys2Proof.Config

/-- R1: an OFF port turns ON again after this time. -/
def portOffTime : Nat := 200
/-- R7, R8: the silence limit of FL and RL. -/
def silenceLimit : Nat := 500
/-- R18: messages a transmit queue holds. -/
def queueCapacity : Nat := 16
/-- R38: the stationary timer. -/
def stationaryTime : Nat := 2000
/-- R38: v_ref at or above which the trailer moves, in 0.01 km/h. -/
def movingSpeed : Nat := 200
/-- R38: v_ref below which the stationary timer starts. -/
def restSpeed : Nat := 50
/-- R29: v_ref below which the repeat count is held at 1. -/
def stuckSpeed : Nat := 3000
/-- R29: the repeat count of a stuck sensor. -/
def stuckCount : Nat := 200
/-- R31: plausible samples in a row that make a SUSPECT record GOOD. -/
def trustCount : Nat := 50
/-- R46: the demand timeout. -/
def demandTimeout : Nat := 60
/-- R50: valid DEMANDs in sequence that recover the link. -/
def recoveryRun : Nat := 3
/-- R79: the refresh period of a channel. -/
def refreshTime : Nat := 50
/-- R79: unbroken deviation or agreement. -/
def deviationTime : Nat := 500
/-- R88: the deviation bound in kPa. -/
def deviationBound : Nat := 60
/-- R90: the time of a path-check step. -/
def stepTime : Nat := 300
/-- R94: the check pressure in kPa. -/
def checkPressure : Nat := 100
/-- R94: feedback that meets RISE. -/
def riseMet : Nat := 80
/-- R95: feedback that meets FALL. -/
def fallMet : Nat := 20
/-- R105: the highest tyre pressure. -/
def tyreMax : Nat := 1400
/-- R106: the hysteresis of the bands, in thousandths. -/
def bandMargin : Nat := 20
/-- Fast-leak judgment: the longest time between two reports that is judged. -/
def leakWindow : Nat := 600000
/-- R115: the learn timeout. -/
def learnTime : Nat := 120000
/-- R115: entries of the candidate list. -/
def candidateCapacity : Nat := 8
/-- R118: reports an assignment needs. -/
def learnReports : Nat := 3
/-- R126: the release timer. -/
def releaseTime : Nat := 20
/-- R130: how far below v_gate the staying speed lies. -/
def stayMargin : Nat := 500
/-- R129: the lowest effective threshold. -/
def thresholdFloor : Nat := 100
/-- R155: records the snapshot store holds. -/
def snapshotCapacity : Nat := 4
/-- R172: the assembly timer. -/
def assemblyTime : Nat := 250
/-- R173: the smallest count of a group. -/
def minCount : Nat := 5
/-- R173: the largest count of a group. -/
def maxCount : Nat := 64
/-- R188: the longest wait for the RESTART reply. -/
def restartTime : Nat := 100
/-- R193: the store time limit. -/
def storeLimit : Nat := 2000
/-- R190: the longest START; the model ends START by itself at this time (log 10). -/
def startTime : Nat := 50
/-- R177: the part identity, item 0x000. -/
def partIdentity : Nat := 340
/-- Hand-offs carried out in one event before the model stops carrying them out (log 4; no event of the
spec's rules comes near it). -/
def handOffBound : Nat := 2000

end Sys2Proof.Config
end

