-- ==== Sys2Proof/Machine/Arith.lean ====
section
/-! DEFINITION. The rounding divisions of 00_scope.md "Arithmetic", clamps, and the checks bytes of R44
and R174. -/

namespace Sys2Proof

/-- Round half up of a non-negative quotient (00_scope.md "Arithmetic"). -/
def divHalfUp (a b : Nat) : Nat := (2 * a + b) / (2 * b)

/-- Round to nearest of a signed quotient by a positive divisor, a half going away from zero. -/
def divNearest (a : Int) (b : Nat) : Int :=
  if 0 ≤ a then (divHalfUp a.toNat b : Int) else -(divHalfUp (-a).toNat b : Int)

/-- A signed quotient by a positive divisor, truncated toward zero. -/
def divTrunc (a : Int) (b : Nat) : Int :=
  if 0 ≤ a then ((a.toNat / b : Nat) : Int) else -(((-a).toNat / b : Nat) : Int)

/-- A Bool as the code 0 or 1 (R200, the last row of the code table). -/
def bit (b : Bool) : Nat := if b then 1 else 0

/-- A value clamped to a range. -/
def clampInt (lo hi v : Int) : Int := if v < lo then lo else if hi < v then hi else v

/-- One step of an 8-bit check register with generator 0x1D (R44). -/
def crc8Step (r : Byte) : Byte := if r.msb then (r <<< 1) ^^^ 0x1D#8 else r <<< 1

/-- The register after one byte (R44). -/
def crc8Byte (r b : Byte) : Byte := Nat.iterate crc8Step 8 (r ^^^ b)

/-- The check byte of R44: start 0xFF, final exclusive-or 0xFF. -/
def crc8 (bytes : List Byte) : Byte := bytes.foldl crc8Byte 0xFF#8 ^^^ 0xFF#8

/-- One step of the 16-bit register with generator 0x1021 (R174). -/
def crc16Step (r : Half) : Half := if r.msb then (r <<< 1) ^^^ 0x1021#16 else r <<< 1

/-- The register after one byte, combined into the high eight bits (R174). -/
def crc16Byte (r : Half) (b : Byte) : Half :=
  Nat.iterate crc16Step 8 (r ^^^ (b.zeroExtend 16 <<< 8))

/-- The register after the bytes (R174). Its value is read as a number after each byte, so that evaluation
computes it there (`crc16From_eq_foldl`). -/
def crc16From (r : Half) : List Byte → Half
  | [] => r
  | b :: rest =>
    match (crc16Byte r b).toNat with
    | 0 => crc16From 0 rest
    | n + 1 => crc16From (BitVec.ofNat 16 (n + 1)) rest

/-- The CRC-16 of R174: start 0xFFFF, no final combination. -/
def crc16 (bytes : List Byte) : Half := crc16From 0xFFFF#16 bytes

/-- The two bytes of a 16-bit value, high byte first (R195). -/
def halfBytes (h : Half) : List Byte := [h.extractLsb' 8 8, h.extractLsb' 0 8]

/-- The four bytes of a 32-bit value, high byte first (R195). -/
def wordBytes (w : Word) : List Byte :=
  [w.extractLsb' 24 8, w.extractLsb' 16 8, w.extractLsb' 8 8, w.extractLsb' 0 8]

/-- A 16-bit value from two bytes, high byte first (R195). -/
def halfOf (hi lo : Byte) : Half := hi ++ lo

/-- A 32-bit value from four bytes, high byte first (R195). -/
def wordOf (a b c d : Byte) : Word := a ++ b ++ c ++ d

/-- A number as one byte. -/
def byteOf (n : Nat) : Byte := BitVec.ofNat 8 n

/-- A number as two bytes (R195). -/
def natHalf (n : Nat) : List Byte := halfBytes (BitVec.ofNat 16 n)

/-- A flag as a byte (R195, R200). -/
def flagByte (b : Bool) : Byte := byteOf (bit b)

/-- A signed number as two bytes, two's complement (R195). -/
def intHalf (i : Int) : List Byte := halfBytes (BitVec.ofInt 16 i)

end Sys2Proof
end

