-- ==== Sys2Proof/Machine/Kinds.lean ====
section
/-! DEFINITION. The enumerated values of the block and their codes (R200). -/

namespace Sys2Proof.Machine

/-- Operating state (R171). -/
inductive OpState where
  | start | run | maintenance
  deriving DecidableEq, Repr

/-- Demand link state (R46); `noLink` is the spec's NONE. -/
inductive LinkState where
  | noLink | active | lost
  deriving DecidableEq, Repr

/-- Emergency cause (R56); `noCause` is the spec's NONE. -/
inductive EmergencyCause where
  | noCause | input | chain | both
  deriving DecidableEq, Repr

/-- Brake mode (R58). -/
inductive BrakeMode where
  | start | maintenance | emergency | fallback | normal
  deriving DecidableEq, Repr

/-- Plausibility state of an SI channel record (R27). -/
inductive RecState where
  | unknown | good | suspect
  deriving DecidableEq, Repr

/-- Quality of v_ref (R36); `noSpeed` is the spec's NONE. -/
inductive SpeedQuality where
  | noSpeed | wheel | tractor
  deriving DecidableEq, Repr

/-- Motion state (R38). -/
inductive Motion where
  | undetermined | stationary | moving
  deriving DecidableEq, Repr

/-- Load quality of a brake group (R65). -/
inductive LoadQuality where
  | good | fallback
  deriving DecidableEq, Repr

/-- Fallback cause of a brake group (R65); `noCause` is the spec's NONE. -/
inductive FallbackCause where
  | noCause | notConfigured | sectionInvalid | noCurve | sensorUnknown | sensorSuspect
  deriving DecidableEq, Repr

/-- Path-check results, per channel and overall (R79, R90). -/
inductive PathResult where
  | notRun | passed | failed | running
  deriving DecidableEq, Repr

/-- Step of a path check (R90). -/
inductive PathStep where
  | rise | fall
  deriving DecidableEq, Repr

/-- State of a wheel record (R102). -/
inductive WheelState where
  | normal | unlearned | unheard | high | missing | low | deflated
  deriving DecidableEq, Repr

/-- Side of the trailer (R99). -/
inductive Side where
  | left | right
  deriving DecidableEq, Repr

/-- A wheel's place on its hub (R99). -/
inductive Placing where
  | single | inner | outer
  deriving DecidableEq, Repr

/-- Learn state (R115). -/
inductive LearnState where
  | idle | listening
  deriving DecidableEq, Repr

/-- Last outcome of a learn (R115); `noOutcome` is the spec's NONE. -/
inductive LearnOutcome where
  | noOutcome | assigned | timeout | cancelled
  deriving DecidableEq, Repr

/-- Stability state (R126). -/
inductive StabState where
  | inactive | normal | watch | testing | intervening | releasing
  deriving DecidableEq, Repr

/-- Table check result (R192). -/
inductive TableCheck where
  | notRun | passed | failed
  deriving DecidableEq, Repr

/-- Filter setting of an input (R39); `unfiltered` is the spec's none. -/
inductive FilterSetting where
  | unfiltered | ms8 | ms32 | ms128
  deriving DecidableEq, Repr

/-- Polarity of an input (R40). -/
inductive Polarity where
  | activeHigh | activeLow
  deriving DecidableEq, Repr

/-- Snapshot mode (R155). -/
inductive SnapMode where
  | keepFirst | keepLatest
  deriving DecidableEq, Repr

/-- Snapshot trigger (R157). -/
inductive SnapTrigger where
  | intervention | emergency | demandLost
  deriving DecidableEq, Repr

/-- Relation of a frame to own position (R9). -/
inductive Relation where
  | all | self | behind | ahead | unplaced
  deriving DecidableEq, Repr

/-- Consumer of a route entry (R10); `noUnit` is the spec's none. -/
inductive Consumer where
  | noUnit | du | si | tu | sc | me
  deriving DecidableEq, Repr

/-- Kind of a long operation (R182). -/
inductive LongKind where
  | storeTables | checkPath
  deriving DecidableEq, Repr

/-- Outcome of an offer to a queue (R22). -/
inductive Placement where
  | placed | discarded | refused
  deriving DecidableEq, Repr

/-- Verdict of DU on a DEMAND (R45). -/
inductive Verdict where
  | valid | stale | invalid
  deriving DecidableEq, Repr

/-- Statuses of a reply, in the order of R176. -/
inductive ReplyStatus where
  | done | badGroup | unknownRequest | badParam | absent | readOnly | notInMaintenance | notStationary
  | busy | mismatch | tableFull | conflict | stillActive | badTables | aborted | failed
  deriving DecidableEq, Repr

/-- Causes of BAD_GROUP (R173, R199). -/
inductive GroupFault where
  | count | order | short | earlyLast | timeout | crc
  deriving DecidableEq, Repr

/-- The seven sections of the image in image order (R189). -/
inductive Sect where
  | route | groups | stability | wheels | status | notice | filters
  deriving DecidableEq, Repr

/-- The 24 notice kinds in the order of R145. -/
inductive NoticeKind where
  | demandLost | hopMismatch | emergency | overload | loadFallback | tyreLow | tyreDeflated | tyreHigh
  | tyreMissing | tyreFastLeak | learnDone | learnTimeout | testUnavailable | intervention | sensorSuspect
  | channelFault | pathCheckFailed | tableCheckFailed | routeMiss | txOverflow | rearMatch
  | maintExitForced | storeFailed | stabilityInactiveFault
  deriving DecidableEq, Repr

/-- Codes of R200. -/
def OpState.code : OpState → Nat
  | .start => 0 | .run => 1 | .maintenance => 2

/-- Codes of R200. -/
def LinkState.code : LinkState → Nat
  | .noLink => 0 | .active => 1 | .lost => 2

/-- Codes of R200. -/
def EmergencyCause.code : EmergencyCause → Nat
  | .noCause => 0 | .input => 1 | .chain => 2 | .both => 3

/-- Codes of R200. -/
def BrakeMode.code : BrakeMode → Nat
  | .start => 0 | .maintenance => 1 | .emergency => 2 | .fallback => 3 | .normal => 4

/-- Codes of R200. -/
def RecState.code : RecState → Nat
  | .unknown => 0 | .good => 1 | .suspect => 2

/-- Codes of R200. -/
def SpeedQuality.code : SpeedQuality → Nat
  | .noSpeed => 0 | .wheel => 1 | .tractor => 2

/-- Codes of R200. -/
def Motion.code : Motion → Nat
  | .undetermined => 0 | .stationary => 1 | .moving => 2

/-- Codes of R200. -/
def LoadQuality.code : LoadQuality → Nat
  | .good => 0 | .fallback => 1

/-- Codes of R200. -/
def FallbackCause.code : FallbackCause → Nat
  | .noCause => 0 | .notConfigured => 1 | .sectionInvalid => 2 | .noCurve => 3 | .sensorUnknown => 4
  | .sensorSuspect => 5

/-- Codes of R200. -/
def PathResult.code : PathResult → Nat
  | .notRun => 0 | .passed => 1 | .failed => 2 | .running => 3

/-- Codes of R200. -/
def PathStep.code : PathStep → Nat
  | .rise => 1 | .fall => 2

/-- Codes of R200. -/
def WheelState.code : WheelState → Nat
  | .normal => 0 | .unlearned => 1 | .unheard => 2 | .high => 3 | .missing => 4 | .low => 5
  | .deflated => 6

/-- Codes of R200. -/
def Side.code : Side → Nat
  | .left => 0 | .right => 1

/-- Codes of R200. -/
def Placing.code : Placing → Nat
  | .single => 0 | .inner => 1 | .outer => 2

/-- Codes of R200. -/
def LearnState.code : LearnState → Nat
  | .idle => 0 | .listening => 1

/-- Codes of R200. -/
def LearnOutcome.code : LearnOutcome → Nat
  | .noOutcome => 0 | .assigned => 1 | .timeout => 2 | .cancelled => 3

/-- Codes of R200. -/
def StabState.code : StabState → Nat
  | .inactive => 0 | .normal => 1 | .watch => 2 | .testing => 3 | .intervening => 4 | .releasing => 5

/-- Codes of R200. -/
def TableCheck.code : TableCheck → Nat
  | .notRun => 0 | .passed => 1 | .failed => 2

/-- Codes of R200. -/
def FilterSetting.code : FilterSetting → Nat
  | .unfiltered => 0 | .ms8 => 1 | .ms32 => 2 | .ms128 => 3

/-- The filter setting of a listed code (R200). -/
def FilterSetting.ofCode : Nat → Option FilterSetting
  | 0 => some .unfiltered | 1 => some .ms8 | 2 => some .ms32 | 3 => some .ms128 | _ => none

/-- The sampling period of a filter setting; none for an unfiltered input (R39). -/
def FilterSetting.period : FilterSetting → Option Nat
  | .unfiltered => none | .ms8 => some 8 | .ms32 => some 32 | .ms128 => some 128

/-- Codes of R200. -/
def Polarity.code : Polarity → Nat
  | .activeHigh => 0 | .activeLow => 1

/-- The polarity of a listed code (R200). -/
def Polarity.ofCode : Nat → Option Polarity
  | 0 => some .activeHigh | 1 => some .activeLow | _ => none

/-- The level a polarity names as active (R40). -/
def Polarity.activeLevel : Polarity → Level
  | .activeHigh => .high | .activeLow => .low

/-- Codes of R200. -/
def levelCode : Level → Nat
  | .low => 0 | .high => 1

/-- Codes of R200. -/
def SnapMode.code : SnapMode → Nat
  | .keepFirst => 0 | .keepLatest => 1

/-- Codes of R200. -/
def SnapTrigger.code : SnapTrigger → Nat
  | .intervention => 0 | .emergency => 1 | .demandLost => 2

/-- Port codes of R9. -/
def portCode : Port → Nat
  | .fl => 0 | .rl => 1 | .wb => 2

/-- The port of a listed code (R200). -/
def portOf : Nat → Option Port
  | 0 => some .fl | 1 => some .rl | 2 => some .wb | _ => none

/-- Relation codes of R9. -/
def Relation.code : Relation → Nat
  | .all => 0 | .self => 1 | .behind => 2 | .ahead => 3 | .unplaced => 4

/-- The relation of a listed code (R9). -/
def Relation.ofCode : Nat → Option Relation
  | 0 => some .all | 1 => some .self | 2 => some .behind | 3 => some .ahead | 4 => some .unplaced
  | _ => none

/-- Codes of R200. -/
def Consumer.code : Consumer → Nat
  | .noUnit => 0 | .du => 1 | .si => 2 | .tu => 3 | .sc => 4 | .me => 5

/-- The consumer of a listed code (R200). -/
def Consumer.ofCode : Nat → Option Consumer
  | 0 => some .noUnit | 1 => some .du | 2 => some .si | 3 => some .tu | 4 => some .sc | 5 => some .me
  | _ => none

/-- Codes of R200. -/
def LongKind.code : LongKind → Nat
  | .storeTables => 1 | .checkPath => 2

/-- Status codes: 0 to 15 in the order of R176 (R199). -/
def ReplyStatus.code : ReplyStatus → Nat
  | .done => 0 | .badGroup => 1 | .unknownRequest => 2 | .badParam => 3 | .absent => 4 | .readOnly => 5
  | .notInMaintenance => 6 | .notStationary => 7 | .busy => 8 | .mismatch => 9 | .tableFull => 10
  | .conflict => 11 | .stillActive => 12 | .badTables => 13 | .aborted => 14 | .failed => 15

/-- Cause codes of R199. -/
def GroupFault.code : GroupFault → Nat
  | .count => 0 | .order => 1 | .short => 2 | .earlyLast => 3 | .timeout => 4 | .crc => 5

/-- Place of a section in image order (R189). -/
def Sect.index : Sect → Fin 7
  | .route => 0 | .groups => 1 | .stability => 2 | .wheels => 3 | .status => 4 | .notice => 5
  | .filters => 6

/-- The sections in image order. -/
def Sect.list : List Sect := [.route, .groups, .stability, .wheels, .status, .notice, .filters]

/-- The section at a place of image order. -/
def Sect.ofIndex (i : Fin 7) : Sect := Sect.list.getD i.val .route

namespace NoticeKind

/-- Number of a kind less one (R145). -/
def index : NoticeKind → Fin 24
  | demandLost => 0 | hopMismatch => 1 | emergency => 2 | overload => 3 | loadFallback => 4
  | tyreLow => 5 | tyreDeflated => 6 | tyreHigh => 7 | tyreMissing => 8 | tyreFastLeak => 9
  | learnDone => 10 | learnTimeout => 11 | testUnavailable => 12 | intervention => 13
  | sensorSuspect => 14 | channelFault => 15 | pathCheckFailed => 16 | tableCheckFailed => 17
  | routeMiss => 18 | txOverflow => 19 | rearMatch => 20 | maintExitForced => 21 | storeFailed => 22
  | stabilityInactiveFault => 23

/-- The kinds in the order of their numbers (R145). -/
def list : List NoticeKind :=
  [demandLost, hopMismatch, emergency, overload, loadFallback, tyreLow, tyreDeflated, tyreHigh,
   tyreMissing, tyreFastLeak, learnDone, learnTimeout, testUnavailable, intervention, sensorSuspect,
   channelFault, pathCheckFailed, tableCheckFailed, routeMiss, txOverflow, rearMatch, maintExitForced,
   storeFailed, stabilityInactiveFault]

/-- The kind of a number 0..23 (one below the number of R145). -/
def ofIndex (i : Fin 24) : NoticeKind := list.getD i.val demandLost

/-- Condition kind or event kind (R145). -/
def isCondition : NoticeKind → Bool
  | hopMismatch | learnDone | learnTimeout | testUnavailable | intervention | routeMiss | txOverflow
  | maintExitForced | storeFailed => false
  | demandLost | emergency | overload | loadFallback | tyreLow | tyreDeflated | tyreHigh | tyreMissing
  | tyreFastLeak | sensorSuspect | channelFault | pathCheckFailed | tableCheckFailed | rearMatch
  | stabilityInactiveFault => true

/-- Bit of the kind's summary class in F11 (R145, R197): brake 0, load 1, tyre 2, stability 3, sensor 4,
link 5, table 6, learn 7. -/
def summaryBit : NoticeKind → Nat
  | emergency | channelFault | pathCheckFailed => 0
  | overload | loadFallback => 1
  | tyreLow | tyreDeflated | tyreHigh | tyreMissing | tyreFastLeak => 2
  | testUnavailable | intervention | stabilityInactiveFault => 3
  | sensorSuspect => 4
  | demandLost | hopMismatch | routeMiss | txOverflow | rearMatch => 5
  | tableCheckFailed | maintExitForced | storeFailed => 6
  | learnDone | learnTimeout => 7

/-- Default lamp enable (R145). -/
def defaultLamp : NoticeKind → Bool
  | demandLost | emergency | overload | loadFallback | tyreLow | tyreDeflated | tyreFastLeak
  | sensorSuspect | channelFault | pathCheckFailed | tableCheckFailed | maintExitForced
  | stabilityInactiveFault => true
  | hopMismatch | tyreHigh | tyreMissing | learnDone | learnTimeout | testUnavailable | intervention
  | routeMiss | txOverflow | rearMatch | storeFailed => false

end NoticeKind

/-- Kind codes of R3. -/
def kDemand : BitVec 5 := 0x01
/-- Kind codes of R3. -/
def kStatus : BitVec 5 := 0x02
/-- Kind codes of R3. -/
def kNotice : BitVec 5 := 0x03
/-- Kind codes of R3. -/
def kWheelDetail : BitVec 5 := 0x04
/-- Kind codes of R3. -/
def kManageRequest : BitVec 5 := 0x05
/-- Kind codes of R3. -/
def kManageReply : BitVec 5 := 0x06
/-- Kind codes of R3. -/
def kSpeed : BitVec 5 := 0x10
/-- Kind codes of R3. -/
def kBellows : BitVec 5 := 0x11
/-- Kind codes of R3. -/
def kMotion : BitVec 5 := 0x12
/-- Kind codes of R3. -/
def kAir : BitVec 5 := 0x13
/-- Kind codes of R3. -/
def kFeedback : BitVec 5 := 0x14
/-- Kind codes of R3. -/
def kTyre : BitVec 5 := 0x15
/-- Kind codes of R3. -/
def kModulator : BitVec 5 := 0x18

/-- The port of a management source (R172). -/
def sourcePort : Source → Port
  | .fl => .fl | .wb => .wb

/-- The group of a channel: group g holds channels 2g-1 and 2g (00_scope.md "Numbering"). -/
def groupOf (c : Fin 6) : Fin 3 := ⟨c.val / 2, by omega⟩

/-- The side of a channel: the odd channel is on the left. -/
def sideOf (c : Fin 6) : Side := if c.val % 2 = 0 then .left else .right

/-- The channel of a group on a side. -/
def channelOf (g : Fin 3) (sd : Side) : Fin 6 := ⟨2 * g.val + sd.code, by cases sd <;> simp [Side.code] <;> omega⟩

/-- The channels in ascending order. -/
def channels : List (Fin 6) := indices 6
/-- The brake groups in ascending order. -/
def groupsList : List (Fin 3) := indices 3
/-- The wheel positions in ascending order. -/
def wheelsList : List (Fin 24) := indices 24

end Sys2Proof.Machine
end

