-- ==== Sys2Proof/Machine/Tables.lean ====
section
/-! DEFINITION. The working tables: their types, the section defaults of R191, the built-in route set of
R15 and the range checks of the write rules and of a load (R190). -/

namespace Sys2Proof.Machine

/-- Key of a route entry (R10). -/
structure RouteKey where
  port : Port
  kind : BitVec 5
  relation : Relation
  deriving DecidableEq, Repr

/-- A route entry without slot number, continue bit or used flag, as the image holds it (R15). -/
structure RouteEntry where
  key : RouteKey
  consumer : Consumer
  toFL : Bool
  toRL : Bool
  deriving DecidableEq, Repr

/-- A Route Table slot (R10). -/
structure RouteSlot where
  valid : Bool
  cont : Bool
  entry : RouteEntry
  used : Bool
  deriving DecidableEq, Repr

/-- Stored fields of a group record (R62). -/
structure GroupRec where
  configured : Bool
  rated : Nat
  emptyKnee : Nat
  ladenKnee : Nat
  emptyRatio : Nat
  threshold : Nat
  cap : Option Nat
  deriving DecidableEq, Repr

/-- Content of the GROUPS section (R62, R63, R64). -/
structure GroupsTable where
  records : Bank GroupRec 3
  curves : Bank (List (Nat × Nat)) 3
  fallbackRatio : Nat
  ceiling : Nat
  deriving DecidableEq, Repr

/-- Content of the STABILITY section (R123, R124). `order` lists brake groups 0..2. -/
structure StabTable where
  enable : Bool
  vGate : Nat
  mWatch : Nat
  mTest : Nat
  mInt : Nat
  hysteresis : Nat
  pTest : Nat
  tPulse : Nat
  tRep : Nat
  liftSlip : Nat
  pIntStart : Nat
  rampUp : Nat
  pIntMax : Nat
  rampDown : Nat
  tMinInt : Nat
  dLow : Nat
  dDefl : Nat
  order : List (Fin 3)
  critical : List (Nat × Nat)
  deriving DecidableEq, Repr

/-- Stored fields of a wheel record (R99). -/
structure WheelRec where
  configured : Bool
  group : Fin 3
  axle : Nat
  side : Side
  placing : Placing
  sensorId : Option Word
  nominal : Nat
  deriving DecidableEq, Repr

/-- Content of the WHEELS section (R99, R101). -/
structure WheelsTable where
  records : Bank WheelRec 24
  qLow : Nat
  qDefl : Nat
  qHigh : Nat
  leak : Nat
  missing : Nat
  deriving DecidableEq, Repr

/-- Stored part of a status field entry (R160). -/
structure FieldRec where
  value : Nat
  change : Bool
  deriving DecidableEq, Repr

/-- Content of the STATUS section (R160, R166, R167). -/
structure StatusTable where
  fields : Bank FieldRec 12
  minInterval : Nat
  periodic : Nat
  mask : Half
  polarity : Half
  deriving DecidableEq, Repr

/-- Both enables of a notice kind (R152). -/
structure Enables where
  message : Bool
  lamp : Bool
  deriving DecidableEq, Repr

/-- Filter and polarity of one input (R39, R40). -/
structure FilterRec where
  filter : FilterSetting
  polarity : Polarity
  deriving DecidableEq, Repr

/-- Content of the FILTERS section. -/
structure FiltersTable where
  supply : FilterRec
  park : FilterRec
  deriving DecidableEq, Repr

/-- The working tables but for the Route Table, which LR holds. -/
structure Tables where
  groups : GroupsTable
  stability : StabTable
  wheels : WheelsTable
  status : StatusTable
  notice : Bank Enables 24
  filters : FiltersTable
  deriving DecidableEq, Repr

/-- GROUPS defaults of R191 for one group. -/
def GroupRec.defaults : GroupRec :=
  { configured := true, rated := 100, emptyKnee := 0, ladenKnee := 1024, emptyRatio := 1024,
    threshold := 0, cap := none }

/-- GROUPS defaults (R64, R191). -/
def GroupsTable.defaults : GroupsTable :=
  { records := Bank.fill 3 GroupRec.defaults, curves := Bank.fill 3 [], fallbackRatio := 1024,
    ceiling := 850 }

/-- STABILITY defaults (R123, R125). -/
def StabTable.defaults : StabTable :=
  { enable := false, vGate := 2500, mWatch := 150, mTest := 80, mInt := 20, hysteresis := 30,
    pTest := 60, tPulse := 150, tRep := 600, liftSlip := 250, pIntStart := 150, rampUp := 20,
    pIntMax := 600, rampDown := 30, tMinInt := 300, dLow := 30, dDefl := 80, order := [0, 1, 2],
    critical := [] }

/-- WHEELS defaults for one record (R191). -/
def WheelRec.defaults : WheelRec :=
  { configured := false, group := 0, axle := 1, side := .left, placing := .single, sensorId := none,
    nominal := 800 }

/-- WHEELS defaults (R101, R191). -/
def WheelsTable.defaults : WheelsTable :=
  { records := Bank.fill 24 WheelRec.defaults, qLow := 850, qDefl := 600, qHigh := 1200, leak := 20,
    missing := 900 }

/-- Default of a status field entry but for its source (R160, R191). -/
def FieldRec.defaults : FieldRec := { value := 0, change := true }

/-- STATUS defaults (R166, R167, R191). -/
def StatusTable.defaults : StatusTable :=
  { fields := Bank.fill 12 FieldRec.defaults, minInterval := 50, periodic := 500, mask := 0,
    polarity := 0 }

/-- NOTICE defaults (R145, R191). -/
def noticeDefaults : Bank Enables 24 :=
  Bank.ofFn fun i => { message := true, lamp := (NoticeKind.ofIndex i).defaultLamp }

/-- FILTERS defaults (R191). -/
def FiltersTable.defaults : FiltersTable :=
  { supply := { filter := .ms32, polarity := .activeLow },
    park := { filter := .ms32, polarity := .activeHigh } }

/-- Every section at its defaults. -/
def Tables.defaults : Tables :=
  { groups := .defaults, stability := .defaults, wheels := .defaults, status := .defaults,
    notice := noticeDefaults, filters := .defaults }

/-- Content of a slot that is free; what it says has no meaning (R10) and reads as 0 (R14). -/
def RouteSlot.free : RouteSlot :=
  { valid := false, cont := false,
    entry := { key := { port := .fl, kind := 0, relation := .all }, consumer := .noUnit,
               toFL := false, toRL := false },
    used := false }

/-- Home slot of a key (R10). -/
def homeSlot (k : RouteKey) : Nat := (k.kind.toNat * 15 + k.relation.code * 3 + portCode k.port) % 64

/-- Probe sequence of a key: its home slot and the next seven, counting on from 63 to 0 (R10). -/
def probeSeq (k : RouteKey) : List (Fin 64) :=
  [0, 1, 2, 3, 4, 5, 6, 7].map fun j => ⟨(homeSlot k + j) % 64, Nat.mod_lt _ (by decide)⟩

/-- The visit of R11 along a list of slots: stop at a hit, or at a slot with continue 0. -/
def lookupAlong (t : Bank RouteSlot 64) (k : RouteKey) : List (Fin 64) → Option (Fin 64)
  | [] => none
  | i :: rest =>
    if (t.read i).valid && (t.read i).entry.key = k then some i
    else if (t.read i).cont then lookupAlong t k rest
    else none

/-- Lookup of a key (R11), the used flag apart. -/
def lookupRoute (t : Bank RouteSlot 64) (k : RouteKey) : Option (Fin 64) := lookupAlong t k (probeSeq k)

/-- The walk of R13 step 2: take the first slot that is not valid; every slot passed gets continue 1. -/
def insertAlong (t : Bank RouteSlot 64) (e : RouteEntry) :
    List (Fin 64) → Option (Bank RouteSlot 64 × Fin 64)
  | [] => none
  | i :: rest =>
    if (t.read i).valid then
      insertAlong (t.write i { t.read i with cont := true }) e rest
    else some (t.write i { t.read i with valid := true, entry := e, used := false }, i)

/-- The insert of R13, steps 1 to 3; none is TABLE_FULL. -/
def insertRoute (t : Bank RouteSlot 64) (e : RouteEntry) : Option (Bank RouteSlot 64 × Fin 64) :=
  match lookupRoute t e.key with
  | some i => some (t.write i { t.read i with valid := true, entry := e, used := false }, i)
  | none => insertAlong t e (probeSeq e.key)

/-- The inserts of a rebuild, one after another (R15 step 2). -/
def insertAll (t : Bank RouteSlot 64) : List RouteEntry → Option (Bank RouteSlot 64)
  | [] => some t
  | e :: rest =>
    match insertRoute t e with
    | some (t', _) => insertAll t' rest
    | none => none

/-- The rebuild of R15 from empty. -/
def rebuildRoutes (es : List RouteEntry) : Option (Bank RouteSlot 64) :=
  insertAll (Bank.fill 64 RouteSlot.free) es

/-- A row of the built-in set. -/
def builtInEntry (p : Port) (k : BitVec 5) (r : Relation) (c : Consumer) (toFL toRL : Bool) : RouteEntry :=
  { key := { port := p, kind := k, relation := r }, consumer := c, toFL := toFL, toRL := toRL }

/-- The built-in route set in the order of R15. -/
def builtInRoutes : List RouteEntry :=
  [ builtInEntry .fl kDemand .all .du false true,
    builtInEntry .fl kManageRequest .self .me false false,
    builtInEntry .fl kManageRequest .behind .noUnit false true,
    builtInEntry .fl kManageRequest .unplaced .me false false,
    builtInEntry .rl kManageReply .all .noUnit true false,
    builtInEntry .rl kStatus .all .sc true false,
    builtInEntry .rl kNotice .all .noUnit true false,
    builtInEntry .rl kWheelDetail .all .noUnit true false,
    builtInEntry .wb kSpeed .self .si false false,
    builtInEntry .wb kBellows .self .si false false,
    builtInEntry .wb kMotion .self .si false false,
    builtInEntry .wb kAir .self .si false false,
    builtInEntry .wb kFeedback .self .si false false,
    builtInEntry .wb kTyre .self .tu false false,
    builtInEntry .wb kManageRequest .self .me false false ]

/-- The table rebuilt from the built-in set (R15); it always finds its slots. -/
def builtInTable : Bank RouteSlot 64 :=
  (rebuildRoutes builtInRoutes).getD (Bank.fill 64 RouteSlot.free)

/-- The valid entries in ascending order of their slots, as a store takes them (R15, R189). -/
def storedRoutes (t : Bank RouteSlot 64) : List RouteEntry :=
  t.cells.filterMap fun sl => if sl.valid then some sl.entry else none

/-- The checks R13 makes on an entry's fields, the ranges being those of its types. -/
def routeEntryOk (e : RouteEntry) : Bool := e.key.port != .wb || e.key.relation == .self

/-- Widths of F1..F12 (R159). -/
def fieldWidth : Fin 12 → Nat
  | 0 => 4 | 1 => 2 | 2 => 3 | 3 => 3 | 4 => 1 | 5 => 3 | 6 => 8 | 7 => 10 | 8 => 8 | 9 => 4 | 10 => 8
  | 11 => 3

/-- `n` lies within `lo..hi`. -/
def within (lo hi n : Nat) : Bool := lo ≤ n && n ≤ hi

/-- Field ranges of R62. -/
def groupRecOk (r : GroupRec) : Bool :=
  within 100 6553 r.rated && within 0 1023 r.emptyKnee && within (r.emptyKnee + 1) 1024 r.ladenKnee
    && within 0 1024 r.emptyRatio && within 0 200 r.threshold
    && (match r.cap with | none => true | some c => within 100 1000 c)

/-- First members strictly increase along a list of points. -/
def firstsIncrease : List (Nat × Nat) → Bool
  | p :: q :: rest => p.1 < q.1 && firstsIncrease (q :: rest)
  | _ => true

/-- Second members never decrease along a list of points. -/
def secondsRise : List (Nat × Nat) → Bool
  | p :: q :: rest => p.2 ≤ q.2 && secondsRise (q :: rest)
  | _ => true

/-- No points, or 2..8 of them. -/
def pointCountOk (ps : List (Nat × Nat)) : Bool := ps.length == 0 || within 2 8 ps.length

/-- The checks of R63 on a load curve. -/
def curveOk (ps : List (Nat × Nat)) : Bool :=
  pointCountOk ps && ps.all (fun p => within 0 1000 p.1 && within 0 6553 p.2) && firstsIncrease ps
    && secondsRise ps

/-- The checks of R124 on the critical table. -/
def criticalOk (ps : List (Nat × Nat)) : Bool :=
  pointCountOk ps && ps.all (fun p => within 0 1024 p.1 && within 150 1000 p.2) && firstsIncrease ps

/-- Range of R_fb (R64). -/
def fallbackRatioOk (n : Nat) : Bool := within 0 1024 n
/-- Range of P_ceil (R64). -/
def ceilingOk (n : Nat) : Bool := within 300 1000 n

/-- Ranges of the stability parameters (R123); the test group order is judged by its code. -/
def stabRange : StabParam → Nat → Bool
  | .enable => within 0 1 | .vGate => within 1000 6000 | .mWatch => within 50 500
  | .mTest => within 30 400 | .mInt => within 0 300 | .hysteresis => within 10 100
  | .pTest => within 20 150 | .tPulse => within 50 500 | .tRep => within 200 5000
  | .liftSlip => within 100 600 | .pIntStart => within 50 400 | .rampUp => within 5 100
  | .pIntMax => within 200 1000 | .rampDown => within 5 100 | .tMinInt => within 100 2000
  | .dLow => within 0 200 | .dDefl => within 0 300 | .order => fun _ => true

/-- A test group order: 1..3 groups, no repeats (R123). -/
def orderOk (o : List (Fin 3)) : Bool := within 1 3 o.length && o.Nodup

/-- The content checks of the STABILITY section. -/
def stabTableOk (t : StabTable) : Bool :=
  stabRange .vGate t.vGate && stabRange .mWatch t.mWatch && stabRange .mTest t.mTest
    && stabRange .mInt t.mInt && stabRange .hysteresis t.hysteresis && stabRange .pTest t.pTest
    && stabRange .tPulse t.tPulse && stabRange .tRep t.tRep && stabRange .liftSlip t.liftSlip
    && stabRange .pIntStart t.pIntStart && stabRange .rampUp t.rampUp && stabRange .pIntMax t.pIntMax
    && stabRange .rampDown t.rampDown && stabRange .tMinInt t.tMinInt && stabRange .dLow t.dLow
    && stabRange .dDefl t.dDefl && orderOk t.order && criticalOk t.critical

/-- Ranges of R99. -/
def wheelRecOk (r : WheelRec) : Bool := within 1 3 r.axle && within 200 1200 r.nominal

/-- No sensor ID in two records (the law of R99). -/
def sensorIdsDistinct (rs : Bank WheelRec 24) : Bool := (rs.cells.filterMap (·.sensorId)).Nodup

/-- Ranges and relations of the tyre settings (R101). -/
def tyreSettingsOk (t : WheelsTable) : Bool :=
  within 500 980 t.qLow && within 300 900 t.qDefl && decide (t.qDefl < t.qLow) && within 1050 1500 t.qHigh
    && within 5 200 t.leak && within 60 3600 t.missing && t.missing % 10 == 0

/-- The content checks of the GROUPS section. -/
def groupsTableOk (t : GroupsTable) : Bool :=
  t.records.all groupRecOk && t.curves.all curveOk && fallbackRatioOk t.fallbackRatio && ceilingOk t.ceiling

/-- The content checks of the WHEELS section. -/
def wheelsTableOk (t : WheelsTable) : Bool :=
  t.records.all wheelRecOk && sensorIdsDistinct t.records && tyreSettingsOk t

/-- Range of the minimum interval (R166). -/
def minIntervalOk (n : Nat) : Bool := within 20 500 n
/-- Range of the periodic interval: 0, or 100..5000 (R166). -/
def periodicOk (n : Nat) : Bool := n == 0 || within 100 5000 n

/-- An override value fits its field's width (R160). -/
def overrideOk (f : Fin 12) (v : Nat) : Bool := v < 2 ^ fieldWidth f

/-- The content checks of the STATUS section. -/
def statusTableOk (t : StatusTable) : Bool :=
  (indices 12).all (fun f => overrideOk f (t.fields.read f).value) && minIntervalOk t.minInterval
    && periodicOk t.periodic

end Sys2Proof.Machine
end

