-- ==== Sys2Proof/Machine/Image.lean ====
section
/-! DEFINITION. The non-volatile image: its parts with their CRC words, the bytes a CRC is computed over,
and what a load makes of it (12_stored_tables_and_start_up.md). -/

namespace Sys2Proof.Machine

/-- The non-volatile image (R189): the header's generation with its CRC word, and the seven sections'
content with a CRC word each, in image order (log 6). -/
structure Image where
  generation : Word
  headerCrc : Half
  routes : List RouteEntry
  tables : Tables
  crcs : Bank Half 7
  deriving DecidableEq, Repr

/-- An optional number of two bytes: presence byte and value (R195). -/
def optHalf (v : Option Nat) : List Byte := flagByte v.isSome :: natHalf (v.getD 0)

/-- The fields of a group record (R62, R195). -/
def groupBytes (r : GroupRec) : List Byte :=
  [flagByte r.configured] ++ natHalf r.rated ++ natHalf r.emptyKnee ++ natHalf r.ladenKnee
    ++ natHalf r.emptyRatio ++ [byteOf r.threshold] ++ optHalf r.cap

/-- A list of points: count byte and members (R195). -/
def pointBytes (ps : List (Nat × Nat)) : List Byte :=
  byteOf ps.length :: ps.flatMap fun p => natHalf p.1 ++ natHalf p.2

/-- The stored fields of a wheel record (R99, R195). -/
def wheelBytes (r : WheelRec) : List Byte :=
  [flagByte r.configured, byteOf (r.group.val + 1), byteOf r.axle, byteOf r.side.code,
   byteOf r.placing.code, flagByte r.sensorId.isSome] ++ wordBytes (r.sensorId.getD 0) ++ natHalf r.nominal

/-- A route entry of the image, its fields in the order of WRITE ENTRY (R189, R199). -/
def routeEntryBytes (e : RouteEntry) : List Byte :=
  [byteOf (portCode e.key.port), byteOf e.key.kind.toNat, byteOf e.key.relation.code,
   byteOf e.consumer.code, byteOf (bit e.toFL + 2 * bit e.toRL)]

/-- The parameters of R123 in their order, then the critical table. Every parameter that is a number takes two
bytes, also h, P_test, ramp up, ramp down and d_low, whose ranges fit one (DESIGN CHOICE, log 6). -/
def stabBytes (t : StabTable) : List Byte :=
  flagByte t.enable
    :: [t.vGate, t.mWatch, t.mTest, t.mInt, t.hysteresis, t.pTest, t.tPulse, t.tRep, t.liftSlip,
        t.pIntStart, t.rampUp, t.pIntMax, t.rampDown, t.tMinInt, t.dLow, t.dDefl].flatMap natHalf
    ++ byteOf t.order.length :: t.order.map (fun g => byteOf (g.val + 1))
    ++ pointBytes t.critical

/-- The content of a section of the image as bytes, in the order of R189's table. The spec gives no bytes of
the image (DESIGN CHOICE, log 6): the model orders the fields of a section as their rules list them, packs
the fields of an entry as R195 does in management, and gives every number that is an item two bytes, also
the leak threshold and those of `stabBytes` whose ranges fit one. -/
def Image.sectionBytes (im : Image) : Sect → List Byte
  | .route => byteOf im.routes.length :: im.routes.flatMap routeEntryBytes
  | .groups =>
    let t := im.tables.groups
    t.records.cells.flatMap groupBytes ++ t.curves.cells.flatMap pointBytes ++ natHalf t.fallbackRatio
      ++ natHalf t.ceiling
  | .stability => stabBytes im.tables.stability
  | .wheels =>
    let t := im.tables.wheels
    t.records.cells.flatMap wheelBytes
      ++ [t.qLow, t.qDefl, t.qHigh, t.leak, t.missing].flatMap natHalf
  | .status =>
    let t := im.tables.status
    (t.fields.cells.flatMap fun f => natHalf f.value ++ [flagByte f.change])
      ++ natHalf t.minInterval ++ natHalf t.periodic ++ halfBytes t.mask ++ halfBytes t.polarity
  | .notice => im.tables.notice.cells.flatMap fun e => [flagByte e.message, flagByte e.lamp]
  | .filters =>
    [im.tables.filters.supply, im.tables.filters.park].flatMap fun f =>
      [byteOf f.filter.code, byteOf f.polarity.code]

/-- The CRC-16 over the content of a section as it stands (R174, R189). -/
def Image.sectionCrc (im : Image) (x : Sect) : Half := crc16 (im.sectionBytes x)

/-- The CRC-16 over the generation as it stands (R174, R189). -/
def Image.generationCrc (im : Image) : Half := crc16 (wordBytes im.generation)

/-- The CRC of a section is correct (R190). -/
def Image.good (im : Image) (x : Sect) : Bool := im.crcs.read x.index == im.sectionCrc x

/-- The CRC of the header is correct (R190). -/
def Image.headerGood (im : Image) : Bool := im.headerCrc == im.generationCrc

/-- The image with a CRC over a section's content as it stands (R193). -/
def Image.withCrc (im : Image) (x : Sect) : Image :=
  { im with crcs := im.crcs.write x.index (im.sectionCrc x) }

/-- The image with a header that holds a generation and its CRC (R193). -/
def Image.withHeader (im : Image) (generation : Word) : Image :=
  { im with generation := generation, headerCrc := crc16 (wordBytes generation) }

/-- A part of the image left with a wrong CRC, its content as it was (R194, log 6): a section 0..6, or the
header 7. -/
def Image.spoil (im : Image) (part : Fin 8) : Image :=
  if h : part.val < 7 then
    { im with crcs := im.crcs.write ⟨part.val, h⟩ (~~~(im.sectionCrc (Sect.ofIndex ⟨part.val, h⟩))) }
  else { im with headerCrc := ~~~im.generationCrc }

/-- A fresh part's image: every CRC wrong (DESIGN CHOICE, log 5). -/
def Image.blank : Image :=
  { generation := 0, headerCrc := 0, routes := [], tables := .defaults, crcs := Bank.fill 7 0 }

/-- R190 steps 1 and 2 for a section: its CRC is good and its content passes the write rules' checks
(NOTICE and FILTERS hold nothing out of range by their types; ROUTE must also rebuild, R15). -/
def sectionLoads (im : Image) : Sect → Bool
  | .route => im.good .route && im.routes.all routeEntryOk && (rebuildRoutes im.routes).isSome
  | .groups => im.good .groups && groupsTableOk im.tables.groups
  | .stability => im.good .stability && stabTableOk im.tables.stability
  | .wheels => im.good .wheels && wheelsTableOk im.tables.wheels
  | .status => im.good .status && statusTableOk im.tables.status
  | .notice => im.good .notice
  | .filters => im.good .filters

/-- The section validity after a load (R190). -/
def loadValidity (im : Image) : Bank Bool 7 :=
  Bank.ofFn fun i => sectionLoads im (Sect.ofIndex i)

/-- The working tables after a load: each section its stored content, or its defaults (R190). -/
def loadTables (im : Image) : Tables :=
  { groups := if sectionLoads im .groups then im.tables.groups else .defaults
    stability := if sectionLoads im .stability then im.tables.stability else .defaults
    wheels := if sectionLoads im .wheels then im.tables.wheels else .defaults
    status := if sectionLoads im .status then im.tables.status else .defaults
    notice := if sectionLoads im .notice then im.tables.notice else noticeDefaults
    filters := if sectionLoads im .filters then im.tables.filters else .defaults }

/-- The store generation after a load: the stored one when the header's CRC is correct, otherwise 0
(R190). -/
def loadGeneration (im : Image) : Word := if im.headerGood then im.generation else 0

/-- The Route Table after a load (R15). -/
def loadRoutes (im : Image) : Bank RouteSlot 64 :=
  if sectionLoads im .route then (rebuildRoutes im.routes).getD builtInTable else builtInTable

end Sys2Proof.Machine
end

