-- ==== Sys2Proof/Machine/State.lean ====
section
/-! DEFINITION. The state of the block as plain data: one structure per unit, as 00_scope.md "Block
overview" divides it, and the queue of commands that wait. -/

namespace Sys2Proof.Machine

/-- A timer measured on the time count. `running n` has `n` milliseconds left; `running 0` has run out
and its expiry is due. `expired` is the spec's stay after an expiry (R7, R8, R27, R126). -/
inductive Timer where
  | stopped
  | running (left : Nat)
  | expired
  deriving DecidableEq, Repr

/-- A message in a transmit queue (R18). A queue lists its messages in age order, oldest first. -/
structure QMsg where
  kind : BitVec 5
  hdr : Header
  data : List Byte
  /-- originated by this part, not forwarded (R20) -/
  own : Bool
  /-- the segment whose leaving ends restart pending (R188) -/
  restartReply : Bool
  /-- in transmission; waiting otherwise (R18) -/
  sending : Bool
  deriving DecidableEq, Repr

/-- A port: its state, its off timer, its controller's error counts and its transmit queue (R1, R18). -/
structure PortRec where
  on : Bool
  offTimer : Timer
  txErrors : Nat
  rxErrors : Nat
  queue : List QMsg
  deriving DecidableEq, Repr

/-- Link Router. Ports stand in the order FL, RL, WB. -/
structure LinkRouter where
  ownPos : Option Nat
  ports : Bank PortRec 3
  flSilence : Timer
  rlSilence : Timer
  routes : Bank RouteSlot 64
  deriving DecidableEq, Repr

/-- A channel record of SI (R27). -/
structure ChannelRec where
  last : Option Int
  arrival : Option Word
  state : RecState
  run : Nat
  stale : Timer
  deriving DecidableEq, Repr

/-- A discrete input (R39, R41). -/
structure InputRec where
  pin : Level
  accepted : Option Level
  previous : Option Level
  sampler : Timer
  deriving DecidableEq, Repr

/-- Sample Intake. Records stand in the order of R177: speed 1..6, bellows, lateral, reservoir, control
line, feedback 1..6. -/
structure SampleIntake where
  records : Bank ChannelRec 18
  repeatCount : Nat
  bellows : Bank (List Int) 3
  lateral : List Int
  vref : Nat
  vrefQuality : SpeedQuality
  testChannel : Option (Fin 6)
  motion : Motion
  stationary : Timer
  supply : InputRec
  park : InputRec
  deriving DecidableEq, Repr

/-- Demand Unit (R46). -/
structure DemandUnit where
  link : LinkState
  lastCounter : Option (BitVec 4)
  lastDemand : Option Nat
  lastSpeed : Option Nat
  chainFlag : Bool
  parkFlag : Bool
  timeout : Timer
  recovery : Nat
  inEffect : Nat
  emergency : Bool
  cause : EmergencyCause
  mode : BrakeMode
  deriving DecidableEq, Repr

/-- Runtime fields of a group record (R65). -/
structure GroupRun where
  bellows : Option Nat
  quality : LoadQuality
  cause : FallbackCause
  load : Option Nat
  fraction : Option Nat
  ratio : Nat
  overload : Bool
  service : Nat
  deriving DecidableEq, Repr

/-- A channel record of BT (R79). -/
structure ChannelRun where
  configured : Bool
  target : Nat
  lastCommanded : Option Nat
  refresh : Timer
  feedback : Option Nat
  deviation : Timer
  fault : Bool
  result : PathResult
  deriving DecidableEq, Repr

/-- Path-check state (R90). -/
structure PathCheck where
  overall : PathResult
  under : Option (Fin 6)
  step : Option PathStep
  stepTimer : Timer
  requestPending : Bool
  deriving DecidableEq, Repr

/-- Brake Target Unit. -/
structure BrakeUnit where
  channels : Bank ChannelRun 6
  check : PathCheck
  deriving DecidableEq, Repr

/-- Runtime fields of a wheel record (R102); `missing` is the seconds remaining, or none when stopped. -/
structure WheelRun where
  state : WheelState
  leak : Bool
  pressure : Option Nat
  temperature : Option Int
  time : Option Word
  lowBattery : Bool
  missing : Option Nat
  deriving DecidableEq, Repr

/-- An entry of the candidate list (R115). -/
structure Candidate where
  sensorId : Word
  count : Nat
  rapidSeen : Bool
  firstSeen : Word
  deriving DecidableEq, Repr

/-- Learn state (R115); a position is 1..24. -/
structure LearnRec where
  state : LearnState
  position : Option (Fin 24)
  outcome : LearnOutcome
  timeout : Timer
  candidates : List Candidate
  deriving DecidableEq, Repr

/-- Tyre Unit. -/
structure TyreUnit where
  wheels : Bank WheelRun 24
  deflated : Bank Bool 3
  low : Bank Bool 3
  worst : WheelState
  /-- the second tick of the present whole second has still to be taken (R108) -/
  tickDue : Bool
  /-- the missing timers loaded at the moment of a tick that has still to be taken: that tick leaves them
  as they are (R108) -/
  justLoaded : Bank Bool 24
  learn : LearnRec
  deriving DecidableEq, Repr

/-- SU's copy of what LU hands it for one group (R67, R126). -/
structure LoadCopy where
  load : Option Nat
  rated : Nat
  quality : LoadQuality
  deriving DecidableEq, Repr

/-- The copies SU holds of the inputs it is handed (R126); `speeds` are the wheel-speed values it was last
handed (R136), none before the first (DEDUCED, log 35). -/
structure StabInputs where
  ay : Option Int
  lateral : RecState
  vref : Nat
  loads : Bank LoadCopy 3
  deflated : Bank Bool 3
  low : Bank Bool 3
  wheel : Bank RecState 6
  speeds : Bank (Option Nat) 6
  fault : Bank Bool 6
  configured : Bank Bool 6
  path : PathResult
  mode : BrakeMode
  deriving DecidableEq, Repr

/-- Stability Unit (R126). -/
structure StabUnit where
  state : StabState
  fraction : Nat
  critical : Option Int
  derate : Nat
  threshold : Option Int
  margin : Option Int
  testChannel : Option (Fin 6)
  pulseTimer : Timer
  testTimer : Timer
  unavailable : Bool
  level : Nat
  minTimer : Timer
  releaseTimer : Timer
  demand : Bank Nat 6
  inputs : StabInputs
  deriving DecidableEq, Repr

/-- A detail with the time count at which it was raised (R145). -/
structure Stamp where
  detail : Half
  time : Word
  deriving DecidableEq, Repr

/-- A notice record (R146). -/
structure NoticeRec where
  flag : Bool
  count : Nat
  first : Option Stamp
  latest : Option Stamp
  present : Bool
  message : Bool
  lamp : Bool
  deriving DecidableEq, Repr

/-- A snapshot record (R157). -/
structure Snapshot where
  time : Word
  trigger : SnapTrigger
  vref : Nat
  ay : Option Int
  margin : Option Int
  fraction : Nat
  inEffect : Nat
  link : LinkState
  cause : EmergencyCause
  derate : Nat
  targets : Bank Nat 6
  deriving DecidableEq, Repr

/-- Notice Unit (R146, R153, R155). -/
structure NoticeUnit where
  records : Bank NoticeRec 24
  lampOut : Bool
  snapshots : List Snapshot
  triggers : Nat
  mode : SnapMode
  maskIntervention : Bool
  maskEmergency : Bool
  maskDemandLost : Bool
  deriving DecidableEq, Repr

/-- Status Composer (R159, R160, R162, R167). `overridden` is source OVERRIDE. -/
structure StatusUnit where
  live : Bank Nat 12
  targets : Bank Nat 6
  loads : Bank (Option Nat) 3
  qualities : Bank LoadQuality 3
  fraction : Nat
  overridden : Bank Bool 12
  lastSent : Bank Nat 12
  minTimer : Timer
  pendingNews : Bool
  periodic : Timer
  /-- rear match state of origins 2, 3, 4 -/
  rear : Bank Bool 3
  /-- START has ended for SC (R162, log 3) -/
  sending : Bool
  deriving DecidableEq, Repr

/-- An assembly buffer while ASSEMBLING (R172). -/
structure Assembly where
  bytes : List Byte
  next : Nat
  timer : Timer
  deriving DecidableEq, Repr

/-- What the long-operation slot holds (R182). -/
structure LongOp where
  kind : LongKind
  src : Source
  code : Byte
  tag : Byte
  deriving DecidableEq, Repr

/-- Management Engine (R171, R172, R182, R188); a buffer that is none is IDLE. -/
structure ManageUnit where
  op : OpState
  bufferFl : Option Assembly
  bufferWb : Option Assembly
  slot : Option LongOp
  restartPending : Bool
  restartTimer : Timer
  deriving DecidableEq, Repr

/-- Table Store (R189); a store in progress names a section 0..6 in image order, or the header 7. -/
structure StoreUnit where
  validity : Bank Bool 7
  generation : Word
  check : TableCheck
  writing : Option (Fin 8)
  limit : Timer
  startTimer : Timer
  image : Image
  deriving DecidableEq, Repr

/-- The events on which SU acts (R131). -/
inductive SuEvent where
  /-- a motion sample, with a_y and the lateral record state (R35) -/
  | motionSample (ay : Option Int) (lateral : RecState)
  /-- a change of the lateral record's state (R33) -/
  | lateralState (ay : Option Int) (lateral : RecState)
  /-- a new v_ref (R36) -/
  | vref (v : Nat)
  /-- a wheel-speed value of a GOOD record, which tells SU both the value and that the record is GOOD
  (R31) -/
  | wheelValue (c : Fin 6) (v : Nat)
  /-- a wheel-speed record has left GOOD (R33) -/
  | wheelState (c : Fin 6) (st : RecState)
  /-- a change of a group's load, rated load in force or quality (R67) -/
  | load (g : Fin 3) (copy : LoadCopy)
  /-- a change of a group's deflated or low state (R111) -/
  | tyre (g : Fin 3) (deflated low : Bool)
  /-- a change of a channel's fault flag (R89) -/
  | fault (c : Fin 6) (f : Bool)
  /-- a change of a channel's configured field (R80) -/
  | configured (c : Fin 6) (b : Bool)
  /-- a change of the path-check overall result (R90) -/
  | path (r : PathResult)
  /-- a new brake mode (R59) -/
  | mode (m : BrakeMode)
  /-- a change of a parameter, the critical table or the section validity in force (R125) -/
  | params
  /-- the pulse timer expires -/
  | pulseExpiry
  /-- the test timer expires -/
  | testExpiry
  /-- the minimum timer expires -/
  | minExpiry
  /-- the release timer expires -/
  | releaseExpiry
  deriving DecidableEq, Repr

/-- What one unit hands another inside an event (00_scope.md "Block overview"). The receiver reads the
owner's state as it stands when it acts, but for the values carried here. -/
inductive HandOff where
  /-- SI to LU: a bellows sample or a change of the record's state (R28, R33) -/
  | luBellows (g : Fin 3)
  /-- DU to LU: a new D, or a new brake mode, or a write of R_fb: every group (R66) -/
  | luAll
  /-- a write changed the group's stored fields or curve (R66) -/
  | luGroup (g : Fin 3)
  /-- LU to BT: a new S of the group (R67) -/
  | btService (g : Fin 3)
  /-- SU to BT: a new stability demand of the channel (R142) -/
  | btDemand (c : Fin 6)
  /-- TU to BT, or LU to BT: deflated state or deflation cap of the group changed (R84) -/
  | btCap (g : Fin 3)
  /-- LU or SI to BT: P_ceil, or the reservoir, may have changed the limit (R84) -/
  | btLimit
  /-- DU to BT: a new brake mode (R59) -/
  | btMode
  /-- DU or SI to BT: a new D or motion state; eligibility is judged (R91) -/
  | btEligible
  /-- the configured fields in force may have changed (R80) -/
  | btConfigured
  /-- SI to BT: a feedback value of a GOOD record (R88) -/
  | btFeedback (c : Fin 6) (v : Nat)
  /-- SI to BT: the feedback record left GOOD (R89) -/
  | btFeedbackLost (c : Fin 6)
  /-- to SU (R131) -/
  | su (e : SuEvent)
  /-- SU to SI: the test channel was named or withdrawn (R37); v_ref is recomputed (R36) -/
  | siTestChannel
  /-- SI to DU: a control-line value, or a change of its record's state (R53) -/
  | duControlLine
  /-- SI to DU: a change of SUPPLY's active state (R54) -/
  | duSupply
  /-- SI to ME: a change of motion state (R38) -/
  | meMotion
  /-- SI to ME: a change of PARK's active state (R40) -/
  | mePark
  /-- to SC: the live value of a field (R159) -/
  | scLive (f : Fin 12) (v : Nat)
  /-- BT to SC: a target (R84) -/
  | scTarget (c : Fin 6) (t : Nat)
  /-- LU to SC: L and load quality of a group (R67) -/
  | scLoad (g : Fin 3) (l : Option Nat) (q : LoadQuality)
  /-- SU to SC: a new F_c (R127) -/
  | scFraction (f : Nat)
  /-- SC composes afresh without a new live value (R161) -/
  | scCompose
  /-- START has ended for SC (R162) -/
  | scStart
  deriving DecidableEq, Repr

/-- The block. `tables` are the working tables but for the Route Table, which stands in `lr`; `pending`
is the model's queue of commands that wait, first in, first out; `owed` are the hand-offs that an event left
to be carried out, none as long as no event makes more of them than the model's bound (log 4). -/
structure State where
  time : Word
  lr : LinkRouter
  si : SampleIntake
  du : DemandUnit
  lu : Bank GroupRun 3
  bt : BrakeUnit
  tu : TyreUnit
  su : StabUnit
  nu : NoticeUnit
  sc : StatusUnit
  me : ManageUnit
  ts : StoreUnit
  tables : Tables
  pending : List Instr
  owed : List HandOff
  deriving DecidableEq, Repr

/-- No command stops the block with a fault: what the spec calls faults are flags, notices and replies
(log 20). Nobody raises one. -/
inductive Fault where
  deriving DecidableEq, Repr

/-- Why a command has no meaning. -/
inductive Refusal where
  /-- raised by exec for a row whose meaning is not written; safe, the machine stops -/
  | notModelled (mnemonic : String)
  deriving DecidableEq, Repr

/-- A port after power-on and RESTART (R1, R18; error counts log 9). -/
def PortRec.fresh : PortRec := { on := true, offTimer := .stopped, txErrors := 0, rxErrors := 0, queue := [] }

/-- LR after power-on and RESTART, with a rebuilt Route Table (R1, R2, R5, R18, R24). -/
def LinkRouter.fresh (routes : Bank RouteSlot 64) : LinkRouter :=
  { ownPos := none, ports := Bank.fill 3 .fresh, flSilence := .stopped, rlSilence := .stopped,
    routes := routes }

/-- A channel record after power-on and RESTART (R27). -/
def ChannelRec.fresh : ChannelRec :=
  { last := none, arrival := none, state := .unknown, run := 0, stale := .stopped }

/-- An input after power-on and RESTART (R41); its pin stands as the outside has it. -/
def InputRec.fresh (pin : Level) : InputRec :=
  { pin := pin, accepted := none, previous := none, sampler := .stopped }

/-- SI after power-on and RESTART (R27, R34 to R38, R41). -/
def SampleIntake.fresh (supplyPin parkPin : Level) : SampleIntake :=
  { records := Bank.fill 18 .fresh, repeatCount := 0, bellows := Bank.fill 3 [], lateral := [],
    vref := 0, vrefQuality := .noSpeed, testChannel := none, motion := .undetermined,
    stationary := .stopped, supply := .fresh supplyPin, park := .fresh parkPin }

/-- DU after power-on and RESTART (R46). -/
def DemandUnit.fresh : DemandUnit :=
  { link := .noLink, lastCounter := none, lastDemand := none, lastSpeed := none, chainFlag := false,
    parkFlag := false, timeout := .stopped, recovery := 0, inEffect := 0, emergency := false,
    cause := .noCause, mode := .start }

/-- A group's runtime fields after power-on and RESTART, R at the R_fb in force (R65). -/
def GroupRun.fresh (fallbackRatio : Nat) : GroupRun :=
  { bellows := none, quality := .fallback, cause := .sensorUnknown, load := none, fraction := none,
    ratio := fallbackRatio, overload := false, service := 0 }

/-- A channel record of BT after power-on and RESTART (R79). -/
def ChannelRun.fresh (configured : Bool) : ChannelRun :=
  { configured := configured, target := 0, lastCommanded := none, refresh := .stopped, feedback := none,
    deviation := .stopped, fault := false, result := .notRun }

/-- The path check after power-on and RESTART (R90). -/
def PathCheck.fresh : PathCheck :=
  { overall := .notRun, under := none, step := none, stepTimer := .stopped, requestPending := false }

/-- BT after power-on and RESTART, with the GROUPS section in force (R79). -/
def BrakeUnit.fresh (groups : GroupsTable) : BrakeUnit :=
  { channels := Bank.ofFn fun c => .fresh (groups.records.read (groupOf c)).configured, check := .fresh }

/-- The state of a record that holds no reading: UNHEARD with a sensor ID, UNLEARNED without (R100). -/
def unreadState (r : WheelRec) : WheelState := if r.sensorId.isSome then .unheard else .unlearned

/-- A wheel record's runtime fields after power-on and RESTART (R102). -/
def WheelRun.fresh (r : WheelRec) : WheelRun :=
  { state := unreadState r, leak := false, pressure := none, temperature := none, time := none,
    lowBattery := false, missing := none }

/-- The learn state after power-on and RESTART (R115). -/
def LearnRec.fresh : LearnRec :=
  { state := .idle, position := none, outcome := .noOutcome, timeout := .stopped, candidates := [] }

/-- TU after power-on and RESTART (R102, R111, R112, R115). -/
def TyreUnit.fresh (wheels : WheelsTable) : TyreUnit :=
  { wheels := Bank.ofFn fun p => .fresh (wheels.records.read p), deflated := Bank.fill 3 false,
    low := Bank.fill 3 false, worst := .normal, tickDue := false,
    justLoaded := Bank.fill 24 false, learn := .fresh }

/-- SU after power-on and RESTART; its copies hold what their owners hold (R126). -/
def StabUnit.fresh (groups : GroupsTable) : StabUnit :=
  { state := .inactive, fraction := 1024, critical := none, derate := 0, threshold := none, margin := none,
    testChannel := none, pulseTimer := .stopped, testTimer := .stopped, unavailable := false, level := 0,
    minTimer := .stopped, releaseTimer := .stopped, demand := Bank.fill 6 0,
    inputs :=
      { ay := none, lateral := .unknown, vref := 0,
        loads := Bank.ofFn fun g =>
          { load := none, rated := (groups.records.read g).rated, quality := .fallback },
        deflated := Bank.fill 3 false, low := Bank.fill 3 false, wheel := Bank.fill 6 .unknown,
        speeds := Bank.fill 6 none, fault := Bank.fill 6 false,
        configured := Bank.ofFn fun c => (groups.records.read (groupOf c)).configured,
        path := .notRun, mode := .start } }

/-- A notice record after power-on, with the enables in force (R146). -/
def NoticeRec.fresh (e : Enables) : NoticeRec :=
  { flag := false, count := 0, first := none, latest := none, present := false, message := e.message,
    lamp := e.lamp }

/-- NU after power-on (R146, R153, R155). -/
def NoticeUnit.fresh (enables : Bank Enables 24) : NoticeUnit :=
  { records := Bank.map .fresh enables, lampOut := false, snapshots := [], triggers := 0,
    mode := .keepFirst, maskIntervention := true, maskEmergency := true, maskDemandLost := false }

/-- SC after power-on and RESTART: every live value is what its owner holds (R159), F4 NORMAL (R112), F5
and F11 as NU's kept flags give them, F9 256 clamped to 255. -/
def StatusUnit.fresh (lamp classes : Nat) : StatusUnit :=
  { live := ⟨[0, 0, 0, 0, lamp, 0, 0, 0, 255, 0, classes, 0], rfl⟩, targets := Bank.fill 6 0,
    loads := Bank.fill 3 none, qualities := Bank.fill 3 .fallback, fraction := 1024, overridden := Bank.fill 12 false, lastSent := Bank.fill 12 0,
    minTimer := .stopped, pendingNews := false, periodic := .stopped, rear := Bank.fill 3 false,
    sending := false }

/-- ME after power-on and RESTART (R171, R172, R182, R188). -/
def ManageUnit.fresh : ManageUnit :=
  { op := .start, bufferFl := none, bufferWb := none, slot := none, restartPending := false,
    restartTimer := .stopped }

/-- TS after power-on and RESTART over an image: START begun, no section valid, generation 0 (R189,
R190). -/
def StoreUnit.fresh (image : Image) : StoreUnit :=
  { validity := Bank.fill 7 false, generation := 0, check := .notRun, writing := none, limit := .stopped,
    startTimer := .running Config.startTime, image := image }

/-- The part right after power-on (R190): the beginning of START over a fresh part's image (log 5), every
unit at its values after power-on, every section at its defaults and invalid (R189), SUPPLY's pin high and
PARK's low, the levels that are inactive under the default polarities (log 7); no command waits. -/
def State.reset : State :=
  { time := 0, lr := .fresh builtInTable, si := .fresh .high .low, du := .fresh,
    lu := Bank.fill 3 (.fresh 1024), bt := .fresh .defaults, tu := .fresh .defaults, su := .fresh .defaults,
    nu := .fresh noticeDefaults, sc := .fresh 0 0, me := .fresh, ts := .fresh .blank, tables := .defaults,
    pending := [], owed := [] }

end Sys2Proof.Machine
end

