-- ==== Sys2Proof/Machine/Ops.lean ====
section
/-! DEFINITION. The operations every unit shares: updates of the state, timers, the work of one event and
its hand-offs, and what is in force of the working tables. -/

namespace Sys2Proof.Machine

/-- The state with `time` replaced. -/
def State.setTime (s : State) (x : Word) : State := { s with time := x }

/-- The state with `lr` replaced. -/
def State.setLr (s : State) (x : LinkRouter) : State := { s with lr := x }

/-- The state with `si` replaced. -/
def State.setSi (s : State) (x : SampleIntake) : State := { s with si := x }

/-- The state with `du` replaced. -/
def State.setDu (s : State) (x : DemandUnit) : State := { s with du := x }

/-- The state with `lu` replaced. -/
def State.setLu (s : State) (x : Bank GroupRun 3) : State := { s with lu := x }

/-- The state with `bt` replaced. -/
def State.setBt (s : State) (x : BrakeUnit) : State := { s with bt := x }

/-- The state with `tu` replaced. -/
def State.setTu (s : State) (x : TyreUnit) : State := { s with tu := x }

/-- The state with `su` replaced. -/
def State.setSu (s : State) (x : StabUnit) : State := { s with su := x }

/-- The state with `nu` replaced. -/
def State.setNu (s : State) (x : NoticeUnit) : State := { s with nu := x }

/-- The state with `sc` replaced. -/
def State.setSc (s : State) (x : StatusUnit) : State := { s with sc := x }

/-- The state with `me` replaced. -/
def State.setMe (s : State) (x : ManageUnit) : State := { s with me := x }

/-- The state with `ts` replaced. -/
def State.setTs (s : State) (x : StoreUnit) : State := { s with ts := x }

/-- The state with `tables` replaced. -/
def State.setTables (s : State) (x : Tables) : State := { s with tables := x }

/-- The state with `pending` replaced. -/
def State.setPending (s : State) (x : List Instr) : State := { s with pending := x }

/-- The state with `owed` replaced. -/
def State.setOwed (s : State) (x : List HandOff) : State := { s with owed := x }

/-- The timer has run out and its expiry is due. -/
def Timer.due : Timer → Bool
  | .running 0 => true
  | _ => false

/-- The timer is running, with time left or just run out. -/
def Timer.isRunning : Timer → Bool
  | .running _ => true
  | _ => false

/-- A timer loaded anew by an offer. One that has run out at this moment keeps its expiry, which is taken
second and loads it again (R87, R164). -/
def Timer.loadedBy (t next : Timer) : Timer := if t.due then t else next

/-- Milliseconds left; 0 when stopped or expired (R144). -/
def Timer.left : Timer → Nat
  | .running n => n
  | _ => 0

/-- One millisecond passes. -/
def Timer.tick : Timer → Timer
  | .running n => .running (n - 1)
  | t => t

/-- The work of one event: the state as it stands, and the hand-offs still to be carried out, in the order
in which they were made (log 3). -/
structure Work where
  st : State
  todo : List HandOff
  deriving DecidableEq, Repr

/-- An event begins with nothing handed on, but for what an event before it left (log 4). -/
def Work.begin (s : State) : Work := { st := s.setOwed [], todo := s.owed }

/-- One more hand-off, after those already made. -/
def Work.emit (w : Work) (h : HandOff) : Work := { w with todo := w.todo ++ [h] }

/-- Several hand-offs, in order. -/
def Work.emitAll (w : Work) (hs : List HandOff) : Work := { w with todo := w.todo ++ hs }

/-- The work with the state's `time` replaced. -/
def Work.setTime (w : Work) (x : Word) : Work := { w with st := w.st.setTime x }

/-- The work with the state's `lr` replaced. -/
def Work.setLr (w : Work) (x : LinkRouter) : Work := { w with st := w.st.setLr x }

/-- The work with the state's `si` replaced. -/
def Work.setSi (w : Work) (x : SampleIntake) : Work := { w with st := w.st.setSi x }

/-- The work with the state's `du` replaced. -/
def Work.setDu (w : Work) (x : DemandUnit) : Work := { w with st := w.st.setDu x }

/-- The work with the state's `lu` replaced. -/
def Work.setLu (w : Work) (x : Bank GroupRun 3) : Work := { w with st := w.st.setLu x }

/-- The work with the state's `bt` replaced. -/
def Work.setBt (w : Work) (x : BrakeUnit) : Work := { w with st := w.st.setBt x }

/-- The work with the state's `tu` replaced. -/
def Work.setTu (w : Work) (x : TyreUnit) : Work := { w with st := w.st.setTu x }

/-- The work with the state's `su` replaced. -/
def Work.setSu (w : Work) (x : StabUnit) : Work := { w with st := w.st.setSu x }

/-- The work with the state's `nu` replaced. -/
def Work.setNu (w : Work) (x : NoticeUnit) : Work := { w with st := w.st.setNu x }

/-- The work with the state's `sc` replaced. -/
def Work.setSc (w : Work) (x : StatusUnit) : Work := { w with st := w.st.setSc x }

/-- The work with the state's `me` replaced. -/
def Work.setMe (w : Work) (x : ManageUnit) : Work := { w with st := w.st.setMe x }

/-- The work with the state's `ts` replaced. -/
def Work.setTs (w : Work) (x : StoreUnit) : Work := { w with st := w.st.setTs x }

/-- The work with the state's `tables` replaced. -/
def Work.setTables (w : Work) (x : Tables) : Work := { w with st := w.st.setTables x }

/-- A section is valid (R189). -/
def State.valid (s : State) (x : Sect) : Bool := s.ts.validity.read x.index

/-- The GROUPS content in force (R64, R191). -/
def State.groupsInForce (s : State) : GroupsTable := if s.valid .groups then s.tables.groups else .defaults

/-- The STABILITY content in force (R125). -/
def State.stabInForce (s : State) : StabTable := if s.valid .stability then s.tables.stability else .defaults

/-- The WHEELS content in force (R101, R191). -/
def State.wheelsInForce (s : State) : WheelsTable := if s.valid .wheels then s.tables.wheels else .defaults

/-- The STATUS content in force (R161, R166, R167). -/
def State.statusInForce (s : State) : StatusTable := if s.valid .status then s.tables.status else .defaults

/-- The FILTERS content in force (R42, R191). -/
def State.filtersInForce (s : State) : FiltersTable := if s.valid .filters then s.tables.filters else .defaults

/-- A wheel record is configured in force (R103). -/
def State.wheelConfigured (s : State) (p : Fin 24) : Bool :=
  s.valid .wheels && (s.tables.wheels.records.read p).configured

/-- The filter and polarity in force of an input. -/
def State.filterOf (s : State) : Pin → FilterRec
  | .supply => s.filtersInForce.supply
  | .park => s.filtersInForce.park

/-- The record SI keeps of an input. -/
def State.input (s : State) : Pin → InputRec
  | .supply => s.si.supply
  | .park => s.si.park

/-- An input is active: it has an accepted level, and that is the level its polarity names (R40). -/
def State.active (s : State) (p : Pin) : Bool :=
  (s.input p).accepted == some (s.filterOf p).polarity.activeLevel

/-- Some record of SI is in the state `st`. -/
def State.anyRecord (s : State) (st : RecState) : Bool := s.si.records.any (·.state == st)

/-- A port's record; ports stand in the order FL, RL, WB. -/
def portIndex : Port → Fin 3
  | .fl => 0 | .rl => 1 | .wb => 2

/-- A port's record. -/
def State.port (s : State) (p : Port) : PortRec := s.lr.ports.read (portIndex p)

/-- The state with a port's record replaced. -/
def State.setPort (s : State) (p : Port) (r : PortRec) : State :=
  s.setLr { s.lr with ports := s.lr.ports.write (portIndex p) r }

/-- Own position as a 3-bit identifier field, 0 while unknown (R4). -/
def State.posField (s : State) : BitVec 3 := BitVec.ofNat 3 (s.lr.ownPos.getD 0)

/-- The identifier fields of a message this part originates (R4). -/
def State.ownHeader (s : State) (priority : BitVec 3) (selector : BitVec 12) : Header :=
  { priority := priority, hop := s.posField, target := 0, origin := s.posField, selector := selector }

/-- A message this part originates. -/
def State.ownMsg (s : State) (priority : BitVec 3) (kind : BitVec 5) (selector : BitVec 12)
    (data : List Byte) : QMsg :=
  { kind := kind, hdr := s.ownHeader priority selector, data := data, own := true, restartReply := false,
    sending := false }

end Sys2Proof.Machine
end

