-- ==== Sys2Proof/Machine/Queue.lean ====
section
/-! DEFINITION. The transmit queues: replacement, capacity, and the transmitter (R18 to R22). -/

namespace Sys2Proof.Machine

/-- Replacement classes (R19). -/
inductive ReplClass where
  | ownStatus (origin : BitVec 3)
  | forwardedStatus (origin : BitVec 3)
  | command (channel : BitVec 12)
  deriving DecidableEq, Repr

/-- The replacement class of a message, if it has one (R19, R20). -/
def QMsg.cls (m : QMsg) : Option ReplClass :=
  if m.kind = kStatus then
    some (if m.own then .ownStatus m.hdr.origin else .forwardedStatus m.hdr.origin)
  else if m.kind = kModulator then some (.command m.hdr.selector)
  else none

/-- Two messages of one replacement class. -/
def QMsg.sameClass (a b : QMsg) : Bool := a.cls.isSome && a.cls == b.cls

/-- A waiting message is replaced by an offered one of its class. R20 names the commands of the WB queue,
which BT alone offers: a MODULATOR COMMAND forwarded on FL or RL replaces none. -/
def QMsg.replacedBy (x m : QMsg) : Bool := x.sameClass m && (m.kind != kModulator || m.own)

/-- Replacement in place of the waiting message of the same class: the new message takes its age (R20). -/
def replaceWaiting (m : QMsg) : List QMsg → Option (List QMsg)
  | [] => none
  | x :: xs =>
    if !x.sending && x.replacedBy m then some (m :: xs) else (replaceWaiting m xs).map (x :: ·)

/-- The lowest priority (largest number) among the waiting messages (R21). -/
def lowestWaiting (q : List QMsg) : Option Nat :=
  ((q.filter fun x => !x.sending).map fun x => x.hdr.priority.toNat).max?

/-- The queue without the youngest message that satisfies `p`. -/
def dropYoungest (p : QMsg → Bool) (q : List QMsg) : List QMsg := (q.reverse.eraseP p).reverse

/-- An offer to the queue of an ON port: the queue after it, its outcome, and whether it overflowed
(R20, R21, R22). -/
def enqueue (q : List QMsg) (m : QMsg) : List QMsg × Placement × Bool :=
  match replaceWaiting m q with
  | some q' => (q', .placed, false)
  | none =>
    if q.length < Config.queueCapacity then (q ++ [m], .placed, false)
    else
      match lowestWaiting q with
      | none => (q, .discarded, true)
      | some low =>
        if low ≤ m.hdr.priority.toNat then (q, .discarded, true)
        else
          (dropYoungest (fun x => !x.sending && x.hdr.priority.toNat == low) q ++ [m], .placed, true)

/-- An offer to a port's queue; an OFF port refuses it (R1, R22). -/
def pushMsg (s : State) (p : Port) (m : QMsg) : State × Placement × Bool :=
  if (s.port p).on then
    let r := enqueue (s.port p).queue m
    (s.setPort p { s.port p with queue := r.1 }, r.2.1, r.2.2)
  else (s, .refused, false)

/-- The highest priority (smallest number) among the waiting messages (R19). -/
def highestWaiting (q : List QMsg) : Option Nat :=
  ((q.filter fun x => !x.sending).map fun x => x.hdr.priority.toNat).min?

/-- The first message that satisfies `p` goes into transmission. -/
def markSending (p : QMsg → Bool) : List QMsg → List QMsg
  | [] => []
  | x :: xs => if p x then { x with sending := true } :: xs else x :: markSending p xs

/-- A message of the queue is in transmission. -/
def anySending (q : List QMsg) : Bool := q.any (·.sending)

/-- The transmitter's choice and the start of its attempt: the oldest of the highest priority (R19). -/
def startAttempt (q : List QMsg) : List QMsg :=
  if anySending q then q
  else
    match highestWaiting q with
    | none => q
    | some p => markSending (fun x => x.hdr.priority.toNat == p) q

/-- A successful attempt removes the message (R19). -/
def attemptSucceeded (q : List QMsg) : List QMsg := q.filter fun x => !x.sending

/-- A waiting message of the class of `m` stands among the messages newer than it. -/
def supersededBy (newer : List QMsg) (m : QMsg) : Bool := newer.any fun x => !x.sending && x.sameClass m

/-- A failed attempt returns the message to waiting with its age, or removes it when a newer message of
its class waits (R19). A queue stands in age order, so the newer messages are those behind it. -/
def attemptFailed : List QMsg → List QMsg
  | [] => []
  | x :: newer =>
    if x.sending && supersededBy newer x then attemptFailed newer
    else { x with sending := false } :: attemptFailed newer

end Sys2Proof.Machine
end

