-- ==== Sys2Proof/Machine/Flags.lean ====
section
/-! DEFINITION. NU: notice records and flags, NOTICE messages, LAMP and the snapshot store
(09_notices_warning_lamp_and_snapshots.md). -/

namespace Sys2Proof.Machine

/-- A kind's record. -/
def NoticeUnit.notice (nu : NoticeUnit) (k : NoticeKind) : NoticeRec := nu.records.read k.index

/-- The unit with a kind's record replaced. -/
def NoticeUnit.setRec (nu : NoticeUnit) (k : NoticeKind) (r : NoticeRec) : NoticeUnit :=
  { nu with records := nu.records.write k.index r }

/-- Some kind of the summary class has its flag set (R154). -/
def NoticeUnit.classSet (nu : NoticeUnit) (b : Nat) : Bool :=
  NoticeKind.list.any fun k => k.summaryBit == b && (nu.notice k).flag

/-- The summary classes that hold a set flag, as the bits of F11 (R154, R197). -/
def NoticeUnit.classMask (nu : NoticeUnit) : Nat :=
  (List.range 8).foldl (fun acc b => acc + bit (nu.classSet b) * 2 ^ b) 0

/-- What LAMP must be: some set flag has its lamp enable in force set (R153). -/
def NoticeUnit.lampDue (nu : NoticeUnit) : Bool := nu.records.any fun r => r.flag && r.lamp

/-- LAMP is judged and driven, and a change is handed to SC (R153, R154). -/
def judgeLamp (w : Work) : Work :=
  if w.st.nu.lampDue = w.st.nu.lampOut then w
  else
    (w.setNu { w.st.nu with lampOut := w.st.nu.lampDue }).emit (.scLive 4 (bit w.st.nu.lampDue))

/-- A change in the set of summary classes against `before` is handed to SC (R154). -/
def judgeClasses (before : Nat) (w : Work) : Work :=
  if w.st.nu.classMask = before then w else w.emit (.scLive 10 w.st.nu.classMask)

/-- The owning unit tells NU that a condition begins or ends (R149). -/
def setPresent (k : NoticeKind) (b : Bool) (w : Work) : Work :=
  if (w.st.nu.notice k).present = b then w
  else w.setNu (w.st.nu.setRec k { w.st.nu.notice k with present := b })

/-- The snapshot trigger of a kind when the mask names it (R155, R156). -/
def NoticeUnit.triggerOf (nu : NoticeUnit) : NoticeKind → Option SnapTrigger
  | .intervention => if nu.maskIntervention then some .intervention else none
  | .emergency => if nu.maskEmergency then some .emergency else none
  | .demandLost => if nu.maskDemandLost then some .demandLost else none
  | _ => none

/-- The six targets as they stand. -/
def State.targets (s : State) : Bank Nat 6 := s.bt.channels.map (·.target)

/-- The record captured at a trigger (R157). -/
def captureSnapshot (s : State) (t : SnapTrigger) : Snapshot :=
  { time := s.time, trigger := t, vref := s.si.vref, ay := s.su.inputs.ay, margin := s.su.margin,
    fraction := s.su.fraction, inEffect := s.du.inEffect, link := s.du.link, cause := s.du.cause,
    derate := s.su.derate, targets := s.targets }

/-- The store after a capture (R156 steps 3 to 5). -/
def storeSnapshot (mode : SnapMode) (held : List Snapshot) (r : Snapshot) : List Snapshot :=
  if held.length < Config.snapshotCapacity then held ++ [r]
  else
    match mode with
    | .keepFirst => held
    | .keepLatest => held.drop 1 ++ [r]

/-- A trigger is taken (R156). -/
def takeTrigger (k : NoticeKind) (w : Work) : Work :=
  match w.st.nu.triggerOf k with
  | none => w
  | some t =>
    w.setNu { w.st.nu with
      triggers := min (w.st.nu.triggers + 1) 255
      snapshots := storeSnapshot w.st.nu.mode w.st.nu.snapshots (captureSnapshot w.st t) }

/-- The record after an occurrence (R147 steps 1 to 4). -/
def NoticeRec.occur (r : NoticeRec) (st : Stamp) : NoticeRec :=
  { r with flag := true, count := min (r.count + 1) 65535, latest := some st,
           first := if r.flag then r.first else some st }

/-- An occurrence on its record, with LAMP, the summary classes and the snapshot store (R147), but for
the NOTICE message. -/
def recordOccurrence (k : NoticeKind) (d : Half) (w : Work) : Work :=
  let mask := w.st.nu.classMask
  takeTrigger k (judgeClasses mask (judgeLamp
    (w.setNu (w.st.nu.setRec k ((w.st.nu.notice k).occur { detail := d, time := w.st.time })))))

/-- The data bytes of a NOTICE (R148, R197): class, first detail, count, low 24 bits of the first time. -/
def noticeData (k : NoticeKind) (r : NoticeRec) : List Byte :=
  let st := r.first.getD { detail := 0, time := 0 }
  [byteOf (bit k.isCondition)] ++ halfBytes st.detail ++ natHalf r.count ++ (wordBytes st.time).drop 1

/-- The NOTICE message of a kind (R148). -/
def noticeMsg (s : State) (k : NoticeKind) : QMsg :=
  s.ownMsg 3 kNotice (BitVec.ofNat 12 (k.index.val + 1)) (noticeData k (s.nu.notice k))

/-- Detail of TX_OVERFLOW: high byte port; low byte OVERFLOW 0, BUS_OFF 1 (R200). -/
def txDetail (p : Port) (busOff : Bool) : Half := BitVec.ofNat 16 (portCode p * 256 + bit busOff)

/-- A unit raises a kind (R147, R148). The number bounds the NOTICE messages that one offer gives rise to:
an overflow of the FL queue raises TX_OVERFLOW, whose own offer may overflow once more (R148). -/
def raiseUpTo : Nat → NoticeKind → Half → Work → Work
  | 0, k, d, w => recordOccurrence k d w
  | n + 1, k, d, w =>
    let w1 := recordOccurrence k d w
    if (w.st.nu.notice k).flag || !(w.st.nu.notice k).message then w1
    else
      let r := pushMsg w1.st .fl (noticeMsg w1.st k)
      if r.2.2 then raiseUpTo n .txOverflow (txDetail .fl false) { w1 with st := r.1 }
      else { w1 with st := r.1 }

/-- A unit raises a kind with its detail (R147). -/
def raise (k : NoticeKind) (d : Half) (w : Work) : Work := raiseUpTo 3 k d w

/-- An offer to a transmit queue; an overflow raises TX_OVERFLOW (R21, R22). -/
def offer (p : Port) (m : QMsg) (w : Work) : Work × Placement :=
  let r := pushMsg w.st p m
  if r.2.2 then (raise .txOverflow (txDetail p false) { w with st := r.1 }, r.2.1)
  else ({ w with st := r.1 }, r.2.1)

/-- A kind's record after a clearing (R150 line 3). -/
def NoticeRec.clear (r : NoticeRec) : NoticeRec := { r with flag := false, first := none, latest := none }

/-- The clearing of a kind, judged for LAMP and handed to SC (R150). -/
def clearKind (k : NoticeKind) (w : Work) : Work :=
  let mask := w.st.nu.classMask
  judgeClasses mask (judgeLamp (w.setNu (w.st.nu.setRec k (w.st.nu.notice k).clear)))

/-- The enables in force of a kind are set, and LAMP is judged (R152, R153). -/
def setEnables (i : Fin 24) (e : Enables) (w : Work) : Work :=
  judgeLamp (w.setNu { w.st.nu with
    records := w.st.nu.records.write i { w.st.nu.records.read i with message := e.message, lamp := e.lamp } })

/-- The NOTICE content in force (R152, R191). -/
def State.noticeInForce (s : State) : Bank Enables 24 := if s.valid .notice then s.tables.notice else noticeDefaults

/-- All enables in force are set from the section, or its defaults (R152). -/
def reloadEnables (w : Work) : Work :=
  judgeLamp (w.setNu { w.st.nu with
    records := Bank.ofFn fun i =>
      { w.st.nu.records.read i with
        message := (w.st.noticeInForce.read i).message, lamp := (w.st.noticeInForce.read i).lamp } })

end Sys2Proof.Machine
end

