-- ==== Sys2Proof/Machine/Operands.lean ====
section
/-! DEFINITION. Every operand form: the identifier, the frames' data bytes, and the parameters of
management requests (13_message_and_record_layouts.md). -/

namespace Sys2Proof.Machine

/-- A data frame with a 29-bit identifier as LR takes it: its kind, its other fields, its data. -/
structure Frame where
  kind : BitVec 5
  hdr : Header
  data : List Byte
  deriving DecidableEq, Repr

/-- The fields of a 29-bit identifier (R196). -/
def splitIdent (id : BitVec 29) : BitVec 5 × Header :=
  (id.extractLsb' 21 5,
   { priority := id.extractLsb' 26 3, hop := id.extractLsb' 18 3, target := id.extractLsb' 15 3,
     origin := id.extractLsb' 12 3, selector := id.extractLsb' 0 12 })

/-- The 29-bit identifier of the fields (R196). -/
def joinIdent (k : BitVec 5) (h : Header) : BitVec 29 :=
  h.priority ++ k ++ h.hop ++ h.target ++ h.origin ++ h.selector

/-- The frame LR reads from a data frame with a 29-bit identifier (R2 step 1). -/
def BusFrame.taken (f : BusFrame) : Frame :=
  { kind := (splitIdent f.ident).1, hdr := (splitIdent f.ident).2, data := f.data }

/-- Data byte `n`, numbered from 1; 0 beyond the end. -/
def byteAt (d : List Byte) (n : Nat) : Byte := d.getD (n - 1) 0

/-- The 16-bit value in bytes `n` and `n + 1` (R195). -/
def halfAt (d : List Byte) (n : Nat) : Half := halfOf (byteAt d n) (byteAt d (n + 1))

/-- A sample frame as SI reads it (R198): the sensor-valid flag and the raw value, signed for MOTION
SAMPLE; none when the frame is too short (R25). -/
def readSample (kind : BitVec 5) (d : List Byte) : Option (Bool × Int) :=
  if d.length < 3 then none
  else
    some ((byteAt d 1).getLsbD 0,
      if kind = kMotion then (halfAt d 2).toInt else ((halfAt d 2).toNat : Int))

/-- The fields of a DEMAND of at least eight data bytes (R43, R197). -/
structure DemandFields where
  pressure : Nat
  speed : Nat
  chain : Bool
  park : Bool
  counter : BitVec 4
  deriving DecidableEq, Repr

/-- The fields of a DEMAND as taken, a pressure above 1000 as 1000, a speed above 20000 as 20000 (R43). -/
def readDemand (d : List Byte) : DemandFields :=
  { pressure := min (halfAt d 1).toNat 1000, speed := min (halfAt d 3).toNat 20000,
    chain := (byteAt d 5).getLsbD 0, park := (byteAt d 5).getLsbD 1,
    counter := (byteAt d 6).extractLsb' 0 4 }

/-- The check byte is correct: at least eight data bytes, and byte 8 is the CRC-8 of bytes 1 to 7 (R43,
R44). -/
def demandCheckOk (d : List Byte) : Bool := 8 ≤ d.length && crc8 (d.take 7) == byteAt d 8

/-- The chain-emergency flag of a DEMAND's flags byte (R197). -/
def chainFlagOf (d : List Byte) : Bool := (byteAt d 5).getLsbD 0

/-- The copy of R57: chain-emergency flag set and check byte recomputed over its bytes 1 to 7. -/
def withChainFlag (d : List Byte) : List Byte :=
  let body := (d.take 7).set 4 (byteAt d 5 ||| 1#8)
  body ++ [crc8 body]

/-- A TYRE REPORT as taken (R104, R198). -/
structure TyreFields where
  sensorId : Word
  pressure : Nat
  temperature : Int
  rapid : Bool
  lowBattery : Bool
  deriving DecidableEq, Repr

/-- The fields of a TYRE REPORT, replacements made; none when the frame is too short (R104). -/
def readTyre (d : List Byte) : Option TyreFields :=
  if d.length < 8 then none
  else
    some
      { sensorId := wordOf (byteAt d 1) (byteAt d 2) (byteAt d 3) (byteAt d 4)
        pressure := min (halfAt d 5).toNat Config.tyreMax
        temperature := clampInt (-40) 150 ((byteAt d 7).toNat - 40)
        rapid := (byteAt d 8).getLsbD 0
        lowBattery := (byteAt d 8).getLsbD 1 }

/-- The flag word of a received STATUS, when the frame holds it (R168, R197). -/
def readFlagWord (d : List Byte) : Option Half := if d.length < 2 then none else some (halfAt d 1)

/-- The data bytes of a STATUS from the contents of F1..F12 (R197). -/
def statusData (f : Bank Nat 12) : List Byte :=
  let flags : BitVec 16 :=
    BitVec.ofNat 4 (f.read 0) ++ BitVec.ofNat 2 (f.read 1) ++ BitVec.ofNat 3 (f.read 2)
      ++ BitVec.ofNat 3 (f.read 3) ++ BitVec.ofNat 1 (f.read 4) ++ BitVec.ofNat 3 (f.read 5)
  let load : BitVec 16 := BitVec.ofNat 10 (f.read 7) ++ BitVec.ofNat 3 (f.read 11) ++ 0#3
  let checks : BitVec 8 := BitVec.ofNat 4 (f.read 9) ++ 0#4
  halfBytes flags ++ [byteOf (f.read 6)] ++ halfBytes load
    ++ [byteOf (f.read 8), byteOf (f.read 10), checks]

/-- The data bytes of a WHEEL DETAIL (R110, R197). The presence bits mark an absent pressure or temperature;
its bytes are then sent as 0, which R197 does not say (DESIGN CHOICE, log 48). -/
def wheelDetailData (r : WheelRec) (w : WheelRun) : List Byte :=
  let b1 : Byte :=
    0#1 ++ BitVec.ofBool w.temperature.isSome ++ BitVec.ofBool w.pressure.isSome
      ++ BitVec.ofBool w.lowBattery ++ BitVec.ofBool w.leak ++ BitVec.ofNat 3 w.state.code
  let b5 : Byte :=
    0#3 ++ BitVec.ofNat 2 r.placing.code ++ BitVec.ofNat 1 r.side.code ++ BitVec.ofNat 2 r.axle
  [b1] ++ natHalf (w.pressure.getD 0)
    ++ [match w.temperature with | none => 0 | some t => BitVec.ofInt 8 (t + 40)] ++ [b5]

/-- Byte 1 of a segment: index in bits 3..0, last flag in bit 4 (R199). -/
def segmentByte (index : Nat) (last : Bool) : Byte := 0#3 ++ BitVec.ofBool last ++ BitVec.ofNat 4 index

/-- The segments of a group: seven bytes each, the last flag on the final one (R176, R199). The first
argument bounds the number of segments. -/
def segmentsFrom : Nat → Nat → List Byte → List (List Byte)
  | 0, _, _ => []
  | n + 1, index, bs =>
    if bs.length ≤ 7 then [segmentByte index true :: bs]
    else (segmentByte index false :: bs.take 7) :: segmentsFrom n (index + 1) (bs.drop 7)

/-- A reply group (R176): count, request code with bit 7 set, tag, status, results, CRC-16. -/
def replyGroup (code tag : Byte) (st : ReplyStatus) (results : List Byte) : List Byte :=
  let body := [byteOf (6 + results.length), code ||| 0x80#8, tag, byteOf st.code] ++ results
  body ++ halfBytes (crc16 body)

/-- The members of a packed point list of known length. -/
def readPoints : List Byte → Option (List (Half × Half))
  | [] => some []
  | a :: b :: c :: d :: rest => (readPoints rest).map ((halfOf a b, halfOf c d) :: ·)
  | _ => none

/-- A packed list: a count byte and as many members (R195); none when the length differs. -/
def readPointList : List Byte → Option (List (Half × Half))
  | [] => none
  | n :: rest => if rest.length = 4 * n.toNat then readPoints rest else none

/-- What the parameters of a group come to (R175 lines 1 and 3). -/
inductive Parsed where
  /-- the code names no request -/
  | unknown
  /-- the parameters are not of a length the request takes, or a WRITE ENTRY names no table -/
  | badLength
  | ok (r : Request)
  deriving DecidableEq, Repr

/-- The fields of a WRITE ENTRY (R181, R195, R199). -/
def parseWriteEntry : List Byte → Parsed
  | t :: rest =>
    match t.toNat, rest with
    | 1, [p, k, r, c, f] => .ok (.writeRoute ⟨p, k, r, c, f⟩)
    | 2, [i, cf, a1, a2, b1, b2, c1, c2, d1, d2, th, cp, e1, e2] =>
      .ok (.writeGroup i ⟨cf, halfOf a1 a2, halfOf b1 b2, halfOf c1 c2, halfOf d1 d2, th, cp, halfOf e1 e2⟩)
    | 3, i :: ps =>
      match readPointList ps with
      | some l => .ok (.writeCurve i l)
      | none => .badLength
    | 4, [i, cf, g, ax, sd, pl, ip, a, b, c, d, n1, n2] =>
      .ok (.writeWheel i ⟨cf, g, ax, sd, pl, ip, wordOf a b c d, halfOf n1 n2⟩)
    | 5, i :: ps =>
      match readPointList ps with
      | some l => .ok (.writeCritical i l)
      | none => .badLength
    | 6, [i, so, v1, v2, ch] => .ok (.writeStatusField i ⟨so, halfOf v1 v2, ch⟩)
    | 7, [i, m, l] => .ok (.writeNotice i ⟨m, l⟩)
    | _, _ => .badLength
  | [] => .badLength

/-- The request a correct group carries (R175, R199). -/
def parseRequest (code : Byte) (ps : List Byte) : Parsed :=
  match code.toNat with
  | 0x01 =>
    match ps with
    | [a, b, i] => .ok (.readItem (halfOf a b) i)
    | _ => .badLength
  | 0x02 =>
    match ps with
    | [a, b, i, c, d, e, f] => .ok (.writeItem (halfOf a b) i (wordOf c d e f))
    | _ => .badLength
  | 0x03 =>
    match ps with
    | [a, b, i, c, d, e, f, g, h, j, k] =>
      .ok (.swapItem (halfOf a b) i (wordOf c d e f) (wordOf g h j k))
    | _ => .badLength
  | 0x04 =>
    match ps with
    | [t, i] => .ok (.readEntry t i)
    | _ => .badLength
  | 0x05 => parseWriteEntry ps
  | 0x06 =>
    match ps with
    | [t, i] => .ok (.eraseEntry t i)
    | _ => .badLength
  | 0x10 => if ps = [] then .ok .enterMaintenance else .badLength
  | 0x11 => if ps = [] then .ok .leaveMaintenance else .badLength
  | 0x12 => if ps = [] then .ok .storeTables else .badLength
  | 0x13 => if ps = [] then .ok .restart else .badLength
  | 0x20 => if ps = [] then .ok .checkPath else .badLength
  | 0x21 =>
    match ps with
    | [p] => .ok (.learnWheel p)
    | _ => .badLength
  | 0x22 => if ps = [] then .ok .cancelLearn else .badLength
  | 0x30 =>
    match ps with
    | [k] => .ok (.readNotice k)
    | _ => .badLength
  | 0x31 =>
    match ps with
    | [k] => .ok (.clearNotice k)
    | _ => .badLength
  | 0x32 =>
    match ps with
    | [i] => .ok (.readSnapshot i)
    | _ => .badLength
  | 0x33 => if ps = [] then .ok .clearSnapshots else .badLength
  | _ => .unknown

/-- The code of a request (R199). -/
def requestCode : Request → Byte
  | .readItem _ _ => 0x01
  | .writeItem _ _ _ => 0x02
  | .swapItem _ _ _ _ => 0x03
  | .readEntry _ _ => 0x04
  | .writeRoute _ | .writeGroup _ _ | .writeCurve _ _ | .writeWheel _ _ | .writeCritical _ _
  | .writeStatusField _ _ | .writeNotice _ _ => 0x05
  | .eraseEntry _ _ => 0x06
  | .enterMaintenance => 0x10
  | .leaveMaintenance => 0x11
  | .storeTables => 0x12
  | .restart => 0x13
  | .checkPath => 0x20
  | .learnWheel _ => 0x21
  | .cancelLearn => 0x22
  | .readNotice _ => 0x30
  | .clearNotice _ => 0x31
  | .readSnapshot _ => 0x32
  | .clearSnapshots => 0x33

/-- The four reading requests that a long operation does not hold up (R175 line 2). -/
def isReading (code : Byte) : Bool := code == 0x01 || code == 0x04 || code == 0x30 || code == 0x32

/-- A code that names a request (R175 line 1). -/
def namesRequest (code : Byte) : Bool :=
  [0x01, 0x02, 0x03, 0x04, 0x05, 0x06, 0x10, 0x11, 0x12, 0x13, 0x20, 0x21, 0x22, 0x30, 0x31, 0x32,
   0x33].contains code.toNat

/-- A yes/no or set/clear field of an entry (R200). -/
def flagOf (b : Byte) : Option Bool :=
  match b.toNat with
  | 0 => some false
  | 1 => some true
  | _ => none

/-- A 1-based index of an entry or item as a position below `n`. -/
def indexOf (n : Nat) (b : Nat) : Option (Fin n) :=
  if h : 1 ≤ b ∧ b ≤ n then some ⟨b - 1, by omega⟩ else none

/-- A presence byte and its value; with 0 the value bytes are not read (R195, log 13). -/
def optionOf {α : Type} (present : Byte) (v : α) : Option (Option α) :=
  match present.toNat with
  | 0 => some none
  | 1 => some (some v)
  | _ => none

/-- The route entry of a WRITE ENTRY after the field checks of R13; none is BAD_PARAM. -/
def readRouteFields (f : RouteFields) : Option RouteEntry := do
  let port ← portOf f.port.toNat
  let rel ← Relation.ofCode f.relation.toNat
  let cons ← Consumer.ofCode f.consumer.toNat
  if f.kind.toNat < 32 && f.forward.toNat < 4 then
    let e : RouteEntry :=
      { key := { port := port, kind := BitVec.ofNat 5 f.kind.toNat, relation := rel }, consumer := cons,
        toFL := f.forward.getLsbD 0, toRL := f.forward.getLsbD 1 }
    if routeEntryOk e then some e else none
  else none

/-- The group record of a WRITE ENTRY after the range checks of R62; none is BAD_PARAM. -/
def readGroupFields (f : GroupFields) : Option GroupRec := do
  let conf ← flagOf f.configured
  let cap ← optionOf f.capPresent f.cap.toNat
  let r : GroupRec :=
    { configured := conf, rated := f.rated.toNat, emptyKnee := f.emptyKnee.toNat,
      ladenKnee := f.ladenKnee.toNat, emptyRatio := f.emptyRatio.toNat, threshold := f.threshold.toNat,
      cap := cap }
  if groupRecOk r then some r else none

/-- The points of a WRITE ENTRY as numbers. -/
def natPoints (ps : List (Half × Half)) : List (Nat × Nat) := ps.map fun p => (p.1.toNat, p.2.toNat)

/-- The wheel record of a WRITE ENTRY after the range checks of R99; none is BAD_PARAM. -/
def readWheelFields (f : WheelFields) : Option WheelRec := do
  let conf ← flagOf f.configured
  let g ← indexOf 3 f.group.toNat
  let side ← flagOf f.side
  let placing ← (match f.placement.toNat with
    | 0 => some Placing.single | 1 => some Placing.inner | 2 => some Placing.outer | _ => none)
  let sid ← optionOf f.idPresent f.sensorId
  let r : WheelRec :=
    { configured := conf, group := g, axle := f.axle.toNat, side := if side then .right else .left,
      placing := placing, sensorId := sid, nominal := f.nominal.toNat }
  if wheelRecOk r then some r else none

/-- The packed test group order (R200): groups in bits 3..0, 7..4, 11..8, count in 15..12. -/
def orderCode (o : List (Fin 3)) : Nat :=
  let place (j : Nat) : Nat := match o[j]? with | some g => (g.val + 1) * 16 ^ j | none => 0
  place 0 + place 1 + place 2 + o.length * 4096

/-- The test group order of a listed value (R200); none is BAD_PARAM. -/
def orderOfCode (v : Nat) : Option (List (Fin 3)) := do
  let n := v / 4096
  let place (j : Nat) : Nat := v / 16 ^ j % 16
  let groups ← ((List.range (min n 3)).mapM fun j => indexOf 3 (place j))
  if v < 65536 && orderOk groups && orderCode groups == v then some groups else none

end Sys2Proof.Machine
end

