-- ==== Sys2Proof/Machine/Intake.lean ====
section
/-! DEFINITION. SI: sample records, plausibility, windows, reference speed, motion state and the discrete
inputs (02_sensor_intake_and_plausibility.md). -/

namespace Sys2Proof.Machine

/-- The sampled quantities (R26). -/
inductive Quantity where
  | speed (c : Fin 6)
  | bellows (g : Fin 3)
  | lateral
  | reservoir
  | controlLine
  | feedback (c : Fin 6)
  deriving DecidableEq, Repr

namespace Quantity

/-- Place of a quantity's record in the order of R177. -/
def index : Quantity → Fin 18
  | speed c => ⟨c.val, by omega⟩
  | bellows g => ⟨6 + g.val, by omega⟩
  | lateral => 9
  | reservoir => 10
  | controlLine => 11
  | feedback c => ⟨12 + c.val, by omega⟩

/-- The quantity of a record. -/
def ofIndex (i : Fin 18) : Quantity :=
  if h : i.val < 6 then speed ⟨i.val, h⟩
  else if h2 : i.val < 9 then bellows ⟨i.val - 6, by omega⟩
  else if i.val = 9 then lateral
  else if i.val = 10 then reservoir
  else if i.val = 11 then controlLine
  else feedback ⟨i.val - 12, by omega⟩

/-- The quantity a sample kind and selector name (R25). -/
def ofSelector (kind : BitVec 5) (sel : BitVec 12) : Option Quantity :=
  if kind = kSpeed then (indexOf 6 sel.toNat).map speed
  else if kind = kBellows then (indexOf 3 sel.toNat).map bellows
  else if kind = kMotion then (if sel = 0 then some lateral else none)
  else if kind = kAir then
    (if sel = 1 then some reservoir else if sel = 2 then some controlLine else none)
  else if kind = kFeedback then (indexOf 6 sel.toNat).map feedback
  else none

/-- Sample kind of a quantity. -/
def kind : Quantity → BitVec 5
  | speed _ => kSpeed
  | bellows _ => kBellows
  | lateral => kMotion
  | reservoir => kAir
  | controlLine => kAir
  | feedback _ => kFeedback

/-- Selector of a quantity. -/
def selector : Quantity → Nat
  | speed c => c.val + 1
  | bellows g => g.val + 1
  | lateral => 0
  | reservoir => 1
  | controlLine => 2
  | feedback c => c.val + 1

/-- Lowest value of the range (R26). -/
def low : Quantity → Int
  | lateral => -2000
  | _ => 0

/-- Highest value of the range (R26). -/
def high : Quantity → Int
  | speed _ => 20000
  | lateral => 2000
  | _ => 1000

/-- Stale limit in ms: three expected periods (R26). -/
def staleLimit : Quantity → Nat
  | speed _ => 30
  | bellows _ => 300
  | lateral => 30
  | reservoir => 300
  | controlLine => 30
  | feedback _ => 60

/-- Detail of SENSOR_SUSPECT: high byte kind code, low byte selector (R200). -/
def detail (q : Quantity) : Half := BitVec.ofNat 16 (q.kind.toNat * 256 + q.selector)

end Quantity

/-- A quantity's record. -/
def SampleIntake.channel (si : SampleIntake) (q : Quantity) : ChannelRec := si.records.read q.index

/-- A quantity's record in the state. -/
def State.record (s : State) (q : Quantity) : ChannelRec := s.si.channel q

/-- The last value of a record while it is GOOD. -/
def State.goodValue (s : State) (q : Quantity) : Option Nat :=
  if (s.record q).state = .good then (s.record q).last.map Int.toNat else none

/-- Filtered bellows value: the floor of the mean of the window; absent while it is empty (R34). -/
def State.filteredBellows (s : State) (g : Fin 3) : Option Nat :=
  match s.si.bellows.read g with
  | [] => none
  | w => some (w.sum.toNat / w.length)

/-- Filtered lateral acceleration: the mean truncated toward zero; absent while the window is empty
(R35). -/
def State.filteredLateral (s : State) : Option Int :=
  match s.si.lateral with
  | [] => none
  | w => some (divTrunc w.sum w.length)

/-- A value enters a window of `n` values, the oldest leaving a full one (R34, R35). -/
def pushWindow (n : Nat) (w : List Int) (v : Int) : List Int :=
  if n ≤ w.length then w.drop 1 ++ [v] else w ++ [v]

/-- The window of a quantity, if it has one, emptied (R30). -/
def emptyWindow (q : Quantity) (si : SampleIntake) : SampleIntake :=
  match q with
  | .bellows g => { si with bellows := si.bellows.write g [] }
  | .lateral => { si with lateral := [] }
  | _ => si

/-- A plausible value enters the window of its quantity, if it has one (R31). -/
def enterWindow (q : Quantity) (v : Int) (si : SampleIntake) : SampleIntake :=
  match q with
  | .bellows g => { si with bellows := si.bellows.write g (pushWindow 8 (si.bellows.read g) v) }
  | .lateral => { si with lateral := pushWindow 4 si.lateral v }
  | _ => si

/-- SENSOR_SUSPECT is present while some record is SUSPECT (R33). -/
def judgeSuspect (w : Work) : Work := setPresent .sensorSuspect (w.st.anyRecord .suspect) w

/-- The repeat count after a lateral sample of value `v` (R29). -/
def repeatAfter (si : SampleIntake) (v : Int) : Nat :=
  if si.repeatCount = 0 ∨ (si.channel .lateral).last ≠ some v ∨ si.vref < Config.stuckSpeed then 1
  else min (si.repeatCount + 1) Config.stuckCount

/-- A record after an implausible judgment, its value and arrival apart (R30). -/
def ChannelRec.suspect (r : ChannelRec) : ChannelRec := { r with state := .suspect, run := 0 }

/-- A record after a plausible sample, its value and arrival apart (R31). -/
def ChannelRec.plausible (r : ChannelRec) : ChannelRec :=
  match r.state with
  | .unknown => { r with state := .good, run := 1 }
  | .suspect =>
    { r with run := r.run + 1, state := if Config.trustCount ≤ r.run + 1 then .good else .suspect }
  | .good => { r with run := min (r.run + 1) Config.trustCount }

/-- SI makes a record SUSPECT: an implausible sample or a stale expiry (R30, R32). -/
def makeSuspect (q : Quantity) (r : ChannelRec) (w : Work) : Work :=
  judgeSuspect (raise .sensorSuspect q.detail
    (w.setSi (emptyWindow q { w.st.si with records := w.st.si.records.write q.index r.suspect })))

/-- v_ref and its quality as R36 defines them. -/
def State.vrefNow (s : State) : Nat × SpeedQuality :=
  let qualify := channels.filter fun c =>
    (s.record (.speed c)).state == .good && s.si.testChannel != some c
  match (qualify.map fun c => ((s.record (.speed c)).last.getD 0).toNat).max? with
  | some v => (v, .wheel)
  | none => if s.du.link = .active then (s.du.lastSpeed.getD 0, .tractor) else (0, .noSpeed)

/-- The hand-offs of a change of the motion state (R38). -/
def Work.setMotion (m : Motion) (w : Work) : Work :=
  if w.st.si.motion = m then w
  else (w.setSi { w.st.si with motion := m }).emitAll [.btEligible, .meMotion]

/-- The motion state is judged after a recomputation of v_ref (R38). -/
def judgeMotion (w : Work) : Work :=
  let si := w.st.si
  if Config.movingSpeed ≤ si.vref then (w.setSi { si with stationary := .stopped }).setMotion .moving
  else if Config.restSpeed ≤ si.vref then w.setSi { si with stationary := .stopped }
  else if si.stationary.isRunning || si.motion == .stationary then w
  else w.setSi { si with stationary := .running Config.stationaryTime }

/-- SI recomputes v_ref, hands a change to SU and judges the motion state (R36, R38). -/
def recomputeVref (w : Work) : Work :=
  let v := w.st.vrefNow
  let w1 := w.setSi { w.st.si with vref := v.1, vrefQuality := v.2 }
  judgeMotion
    (if w.st.si.vref = v.1 ∧ w.st.si.vrefQuality = v.2 then w1 else w1.emit (.su (.vref v.1)))

/-- What SI hands on after a sample or a stale expiry, the record having been in state `old` (R28 to R33).
`sample` says that a sample arrived. A sample that makes or finds a record GOOD goes to its consumer as one
hand-off, state and value together (R31). SU is told of a wheel-speed record before v_ref is computed again;
the spec lets the two come in either order (R33; DESIGN CHOICE, log 40). -/
def handRecord (q : Quantity) (old : RecState) (sample : Bool) (w : Work) : Work :=
  let r := w.st.record q
  let changed := decide (r.state ≠ old)
  let goodSample := sample && r.state == .good
  let value := (r.last.getD 0).toNat
  match q with
  | .speed c =>
    if goodSample then recomputeVref (w.emit (.su (.wheelValue c value)))
    else if changed then recomputeVref (w.emit (.su (.wheelState c r.state)))
    else w
  | .bellows g => if sample || changed then w.emit (.luBellows g) else w
  | .lateral =>
    if sample then w.emit (.su (.motionSample w.st.filteredLateral r.state))
    else if changed then w.emit (.su (.lateralState w.st.filteredLateral r.state))
    else w
  | .reservoir => if changed || goodSample then w.emit .btLimit else w
  | .controlLine => if changed || goodSample then w.emit .duControlLine else w
  | .feedback c =>
    if goodSample then w.emit (.btFeedback c value)
    else if changed then w.emit (.btFeedbackLost c)
    else w

/-- SI takes a sample it keeps: clamp, stuck test, judgment, record, window, hand-offs (R25, R28 to
R32). -/
def takeSample (q : Quantity) (sensorValid : Bool) (raw : Int) (w : Work) : Work :=
  let s := w.st
  let v := clampInt q.low q.high raw
  let count := if q = .lateral then repeatAfter s.si v else s.si.repeatCount
  let stuck := decide (q = .lateral) && decide (count = Config.stuckCount)
  let old := s.record q
  let kept : ChannelRec :=
    { old with last := some v, arrival := some s.time, stale := .running q.staleLimit }
  let w1 := w.setSi { s.si with repeatCount := count }
  let w2 :=
    if sensorValid && v == raw && !stuck then
      judgeSuspect
        (w1.setSi (enterWindow q v
          { w1.st.si with records := w1.st.si.records.write q.index kept.plausible }))
    else makeSuspect q kept w1
  handRecord q old.state true w2

/-- SI takes a sample frame LR hands it; a selector that names no record and a frame that is too short
discard it (R25). -/
def intakeFrame (f : Frame) (w : Work) : Work :=
  match Quantity.ofSelector f.kind f.hdr.selector, readSample f.kind f.data with
  | some q, some (sv, raw) => takeSample q sv raw w
  | _, _ => w

/-- The stale timer of a record expires (R32). The expiry of a lateral record that was SUSPECT already
changes no state; it empties the window, and SU is told that a_y is absent (R35, R129, log 28). -/
def staleExpiry (q : Quantity) (w : Work) : Work :=
  let old := w.st.record q
  let w1 := handRecord q old.state false (makeSuspect q { old with stale := .expired } w)
  if q = .lateral ∧ old.state = .suspect ∧ w.st.si.lateral ≠ [] then
    w1.emit (.su (.lateralState none .suspect))
  else w1

/-- The record of an input replaced. -/
def SampleIntake.setInput (si : SampleIntake) (p : Pin) (r : InputRec) : SampleIntake :=
  match p with
  | .supply => { si with supply := r }
  | .park => { si with park := r }

/-- An input's record replaced in the work. -/
def Work.setInput (p : Pin) (r : InputRec) (w : Work) : Work := w.setSi (w.st.si.setInput p r)

/-- The unit that acts on an input's active state: SUPPLY goes to DU, PARK to ME (R40). -/
def inputHandOff : Pin → HandOff
  | .supply => .duSupply
  | .park => .mePark

/-- SI accepts a level; only a level other than the accepted one is a change (R39, R40). -/
def acceptLevel (p : Pin) (l : Level) (w : Work) : Work :=
  if (w.st.input p).accepted = some l then w
  else (w.setInput p { w.st.input p with accepted := some l }).emit (inputHandOff p)

/-- One sample of a filtered input: two consecutive samples of the level opposite to the accepted one
accept it at the second (R39). -/
def sampleInput (p : Pin) (l : Level) (period : Nat) (w : Work) : Work :=
  let r := w.st.input p
  let w1 := w.setInput p { r with pin := l, previous := some l, sampler := .running period }
  if r.previous = some l then acceptLevel p l w1 else w1

/-- A new filter in force: previous sample discarded, sampling restarted at the new period, accepted level
kept; unfiltered, a pin level that differs is accepted at once (R42). R42 does not say when the first
sample falls; the model takes it one new period after the change (DESIGN CHOICE, log 34). -/
def applyFilter (p : Pin) (f : FilterSetting) (w : Work) : Work :=
  let r := w.st.input p
  match f.period with
  | some n => w.setInput p { r with previous := none, sampler := .running n }
  | none => acceptLevel p r.pin (w.setInput p { r with previous := none, sampler := .stopped })

/-- A change of an input's settings in force from `before` (R42). In START it is recorded alone. Where filter
and polarity change at one event, the spec gives them no order: the model applies the filter first, and DU
or ME acts on the active state that both leave, so one that would stand between the two is never seen
(DESIGN CHOICE, log 41). -/
def applyFilterChange (p : Pin) (before : FilterRec) (w : Work) : Work :=
  if w.st.me.op = .start then w
  else
    let now := w.st.filterOf p
    let w1 := if before.filter = now.filter then w else applyFilter p now.filter w
    if before.polarity = now.polarity then w1 else w1.emit (inputHandOff p)

/-- The stationary timer expires (R38). -/
def stationaryExpiry (w : Work) : Work :=
  (w.setSi { w.st.si with stationary := .stopped }).setMotion .stationary

/-- The pin of an input stands at a level (R39): an unfiltered input takes an edge at once; a filtered one
takes the level as its sample when a sample is due, once per filter period, and no unit sees it otherwise
(log 8). -/
def samplePin (p : Pin) (l : Level) (w : Work) : Work :=
  let r := w.st.input p
  match (w.st.filterOf p).filter.period with
  | some n => if r.sampler.due then sampleInput p l n w else w.setInput p { r with pin := l }
  | none => acceptLevel p l (w.setInput p { r with pin := l })

/-- SI accepts a level now (R39, R41): START has ended, the level is not the accepted one, and an
unfiltered input has an edge to it, or a filtered one has a second sample of it due. -/
def State.canAccept (s : State) (p : Pin) (l : Level) : Bool :=
  s.me.op != .start && (s.input p).accepted.isSome && (s.input p).accepted != some l
    && ((s.filterOf p).filter.period.isNone
        || ((s.input p).sampler.due && (s.input p).previous == some l))

/-- The end of START for an input: sampling starts, and the pin's level is the first sample and the
accepted level (R41). -/
def startInput (p : Pin) (l : Level) (w : Work) : Work :=
  let per := (w.st.filterOf p).filter.period
  w.setInput p
    { pin := l, accepted := some l, previous := if per.isSome then some l else none,
      sampler := match per with | some n => .running n | none => .stopped }

end Sys2Proof.Machine
end

