-- ==== Sys2Proof/Machine/Demand.lean ====
section
/-! DEFINITION. DU: the verdict on a DEMAND, the demand link states, the demand in effect, emergency and
the brake mode (03_brake_demand_and_emergency.md); with it own position, which LR sets at DU's verdict. -/

namespace Sys2Proof.Machine

/-- The hop test of R6. -/
def hopTest (ownPos : Option Nat) (hop : BitVec 3) : Bool :=
  match ownPos with
  | none => hop.toNat ≤ 3
  | some p => hop.toNat + 1 == p

/-- D as R52 derives it. -/
def State.effectNow (s : State) : Nat :=
  if s.du.link = .active then s.du.lastDemand.getD 0 else (s.goodValue .controlLine).getD 0

/-- DU derives D again and hands a new value to LU and BT (R53). -/
def deriveEffect (w : Work) : Work :=
  if w.st.effectNow = w.st.du.inEffect then w
  else (w.setDu { w.st.du with inEffect := w.st.effectNow }).emitAll [.luAll, .btEligible]

/-- The causes of R54 and R55 combined (R56). -/
def State.causeNow (s : State) : EmergencyCause :=
  match s.active .supply, s.du.link == .active && s.du.chainFlag with
  | false, false => .noCause
  | true, false => .input
  | false, true => .chain
  | true, true => .both

/-- DU derives the emergency cause; the change from NONE raises EMERGENCY (R56). -/
def judgeEmergency (w : Work) : Work :=
  let c := w.st.causeNow
  let wasOn := w.st.du.emergency
  let on := c != .noCause
  let w1 := setPresent .emergency on (w.setDu { w.st.du with cause := c, emergency := on })
  if on && !wasOn then raise .emergency (BitVec.ofNat 16 c.code) w1 else w1

/-- The brake mode of R58. -/
def State.modeNow (s : State) : BrakeMode :=
  match s.me.op with
  | .start => .start
  | .maintenance => .maintenance
  | .run =>
    if s.du.emergency then .emergency else if s.du.link = .active then .normal else .fallback

/-- DU derives the brake mode and hands a new value to LU, BT, SU and SC (R59). -/
def deriveMode (w : Work) : Work :=
  let m := w.st.modeNow
  if m = w.st.du.mode then w
  else (w.setDu { w.st.du with mode := m }).emitAll [.luAll, .btMode, .su (.mode m), .scLive 0 m.code]

/-- A change of link state, with the DEMAND_LOST condition (R49) and the live value of F2 (R159). -/
def setLink (l : LinkState) (w : Work) : Work :=
  if l = w.st.du.link then w
  else
    (setPresent .demandLost (l == .lost) (w.setDu { w.st.du with link := l })).emit (.scLive 1 l.code)

/-- Own position changes, and with it the live value of F12 (R5, R7, R159). -/
def setOwnPos (p : Option Nat) (w : Work) : Work :=
  if p = w.st.lr.ownPos then w
  else (w.setLr { w.st.lr with ownPos := p }).emit (.scLive 11 (p.getD 0))

/-- The verdict of R45 on the data bytes of a DEMAND. -/
def verdictOf (du : DemandUnit) (d : List Byte) : Verdict :=
  if !demandCheckOk d then .invalid
  else if du.lastCounter = some (readDemand d).counter then .stale
  else .valid

/-- The values of a valid DEMAND recorded (R47, R48, R50). -/
def DemandUnit.recordDemand (du : DemandUnit) (f : DemandFields) : DemandUnit :=
  { du with lastCounter := some f.counter, lastDemand := some f.pressure, lastSpeed := some f.speed,
            chainFlag := f.chain, parkFlag := f.park }

/-- The recovery count after a valid DEMAND in LOST (R50). -/
def recoveryAfter (count : Nat) (previous : Option (BitVec 4)) (counter : BitVec 4) : Nat :=
  if count = 0 then 1 else if previous.map (· + 1) = some counter then count + 1 else 1

/-- Own position is learned at the verdict valid, while unknown and when the hop test passes (R5). -/
def learnPosition (hop : BitVec 3) (w : Work) : Work :=
  if w.st.lr.ownPos = none ∧ hopTest none hop then setOwnPos (some (hop.toNat + 1)) w else w

/-- What follows when DU's link state or recorded values have changed (R47 to R51): DU derives D, emergency
and brake mode, and SI computes v_ref again (R36) after DU, so the snapshot of an EMERGENCY raised here
holds v_ref as it stood before (R157). -/
def afterLinkChange (w : Work) : Work :=
  recomputeVref (deriveMode (judgeEmergency (deriveEffect w)))

/-- A valid DEMAND acts on the link state (R47, R48, R50). -/
def takeValid (f : DemandFields) (w : Work) : Work :=
  let previous := w.st.du.lastCounter
  let w1 := w.setDu (w.st.du.recordDemand f)
  let restarted (w : Work) : Work :=
    w.setDu { w.st.du with timeout := .running Config.demandTimeout, recovery := 0 }
  match w.st.du.link with
  | .noLink | .active => afterLinkChange (setLink .active (restarted w1))
  | .lost =>
    let n := recoveryAfter w.st.du.recovery previous f.counter
    if n = Config.recoveryRun then afterLinkChange (setLink .active (restarted w1))
    else w1.setDu { w1.st.du with recovery := n }

/-- DU takes a DEMAND that arrived on FL (R43, R45): the verdict and what it does. -/
def takeDemand (hop : BitVec 3) (d : List Byte) (w : Work) : Work × Verdict :=
  let v := verdictOf w.st.du d
  (match v with
   | .valid => takeValid (readDemand d) (learnPosition hop w)
   | .stale | .invalid => w, v)

/-- The demand timeout expires (R49). DEMAND_LOST is raised when DU has derived D and the emergency cause and
before another unit acts, so its snapshot holds v_ref and targets as they stood before (R157, log 17). -/
def loseDemand (w : Work) : Work :=
  let w1 := w.setDu { w.st.du with timeout := .stopped }
  if w.st.du.link = .active then
    let w2 := setLink .lost (w1.setDu { w1.st.du with recovery := 0 })
    let w3 := judgeEmergency (deriveEffect w2)
    recomputeVref
      (deriveMode (raise .demandLost (BitVec.ofNat 16 ((w.st.du.lastCounter.getD 0).toNat)) w3))
  else w1

/-- FL silence for DU (R51). -/
def silenceDemand (w : Work) : Work :=
  let w1 := w.setDu
    { w.st.du with lastCounter := none, lastDemand := none, lastSpeed := none, chainFlag := false,
                   parkFlag := false, timeout := .stopped, recovery := 0 }
  afterLinkChange (setLink .noLink w1)

/-- DU acts on a control-line value or state change that SI hands it; D reads the control line only while
the link is not ACTIVE (R52, R53). -/
def controlLineHanded (w : Work) : Work := deriveEffect w

/-- DU acts on SUPPLY's active state (R54, R56, R59). -/
def supplyHanded (w : Work) : Work := deriveMode (judgeEmergency w)

end Sys2Proof.Machine
end

