-- ==== Sys2Proof/Machine/Load.lean ====
section
/-! DEFINITION. LU: load quality, load, fraction, overload, ratio and service output of a brake group
(04_load_dependent_brake_ratio.md). -/

namespace Sys2Proof.Machine

/-- A group's record in force (R64). -/
def State.groupRec (s : State) (g : Fin 3) : GroupRec := s.groupsInForce.records.read g

/-- A group's load curve in force (R64). -/
def State.curve (s : State) (g : Fin 3) : List (Nat × Nat) := s.groupsInForce.curves.read g

/-- The number of a group, channel, wheel or field as a notice detail (R200). -/
def numDetail {n : Nat} (i : Fin n) : Half := BitVec.ofNat 16 (i.val + 1)

/-- The fallback cause of a configured group: the first line of R68 that holds. -/
def State.loadCause (s : State) (g : Fin 3) : FallbackCause :=
  if !s.valid .groups then .sectionInvalid
  else if (s.curve g).isEmpty then .noCurve
  else
    match (s.record (.bellows g)).state with
    | .unknown => .sensorUnknown
    | .suspect => .sensorSuspect
    | .good => if (s.lu.read g).bellows.isNone then .sensorSuspect else .noCause

/-- The load along a curve at a pressure (R70): clamped to its ends, linear between. -/
def loadAt (b : Nat) : List (Nat × Nat) → Nat
  | [] => 0
  | [p] => p.2
  | p :: q :: rest =>
    if b ≤ p.1 then p.2
    else if b < q.1 then p.2 + divHalfUp ((q.2 - p.2) * (b - p.1)) (q.1 - p.1)
    else loadAt b (q :: rest)

/-- The load fraction (R71). -/
def fractionOf (load rated : Nat) : Nat := min (load * 1024 / rated) 1024

/-- The ratio of a fraction on the ratio line of a group (R73 lines 3 to 5). -/
def ratioOf (r : GroupRec) (f : Nat) : Nat :=
  if f ≤ r.emptyKnee then r.emptyRatio
  else if r.ladenKnee ≤ f then 1024
  else r.emptyRatio + divHalfUp ((1024 - r.emptyRatio) * (f - r.emptyKnee)) (r.ladenKnee - r.emptyKnee)

/-- The service output of a configured group (R74). -/
def serviceOf (d threshold ratio : Nat) : Nat :=
  if d ≤ threshold then d else threshold + divHalfUp ((d - threshold) * ratio) 1024

/-- The runtime fields of an unconfigured group (R65). -/
def GroupRun.unconfigured (x : GroupRun) (fallbackRatio : Nat) : GroupRun :=
  { x with quality := .fallback, cause := .notConfigured, load := none, fraction := none,
           ratio := fallbackRatio, overload := false, service := 0 }

/-- The runtime fields of a configured group after a computation (R66): R68, R70 to R74 in that order. -/
def State.computed (s : State) (g : Fin 3) : GroupRun :=
  let r := s.groupRec g
  let c := s.loadCause g
  let good := c == .noCause
  let load := if good then some (loadAt ((s.lu.read g).bellows.getD 0) (s.curve g)) else none
  let fraction := load.map (fractionOf · r.rated)
  let ratio :=
    if s.du.mode = .maintenance then 1024
    else
      match fraction with
      | none => s.groupsInForce.fallbackRatio
      | some f => ratioOf r f
  { bellows := (s.lu.read g).bellows, quality := if good then .good else .fallback, cause := c,
    load := load, fraction := fraction, ratio := ratio,
    overload := match load with | none => false | some l => r.rated < l,
    service := serviceOf s.du.inEffect r.threshold ratio }

/-- A cause that LOAD_FALLBACK reports (R69). -/
def FallbackCause.reported : FallbackCause → Bool
  | .sectionInvalid | .noCurve | .sensorSuspect => true
  | .noCause | .notConfigured | .sensorUnknown => false

/-- The conditions OVERLOAD and LOAD_FALLBACK (R69, R72). -/
def judgeLoadConditions (w : Work) : Work :=
  setPresent .loadFallback (w.st.lu.any (·.cause.reported)) (setPresent .overload (w.st.lu.any (·.overload)) w)

/-- What a computation or setting of a group hands on (R67): S when it has changed; and, for SU and SC, the
values they keep copies of, which each compares with its copy and takes as no event when nothing has changed
(DESIGN CHOICE, log 50). -/
def handGroup (g : Fin 3) (oldService : Nat) (w : Work) : Work :=
  let x := w.st.lu.read g
  (if x.service = oldService then w else w.emit (.btService g)).emitAll
    [.su (.load g { load := x.load, rated := (w.st.groupRec g).rated, quality := x.quality }),
     .scLoad g x.load x.quality]

/-- A group is computed, or set as unconfigured, with its notices and hand-offs (R65, R66, R67, R69, R72).
Nothing is computed in START. -/
def computeGroup (g : Fin 3) (w : Work) : Work :=
  if w.st.du.mode = .start then w
  else
    let old := w.st.lu.read g
    let new :=
      if (w.st.groupRec g).configured then w.st.computed g
      else old.unconfigured w.st.groupsInForce.fallbackRatio
    let w1 := judgeLoadConditions (w.setLu (w.st.lu.write g new))
    let w2 := if new.overload && !old.overload then raise .overload (numDetail g) w1 else w1
    let w3 :=
      if new.cause.reported && !old.cause.reported then raise .loadFallback (numDetail g) w2 else w2
    handGroup g old.service w3

/-- SI hands LU a bellows sample or a change of the record's state: B_f is copied, and the group is
computed (R66). -/
def bellowsHanded (g : Fin 3) (w : Work) : Work :=
  computeGroup g
    (w.setLu (w.st.lu.write g { w.st.lu.read g with bellows := w.st.filteredBellows g }))

/-- Every group is computed or set (R66). The spec gives no order among the groups that one event computes;
the model takes them in ascending order, and so their LOAD_FALLBACK and OVERLOAD occurrences (DESIGN CHOICE,
log 36). -/
def computeAll (w : Work) : Work := computeGroup 2 (computeGroup 1 (computeGroup 0 w))

end Sys2Proof.Machine
end

