-- ==== Sys2Proof/Machine/Reply.lean ====
section
/-! DEFINITION. Replies of ME: the reply group, its segments, and the long-operation slot's answer
(R176, R182). -/

namespace Sys2Proof.Machine

/-- Several messages offered to one queue, one after the other. -/
def offerAll (p : Port) : List QMsg → Work → Work
  | [], w => w
  | m :: rest, w => offerAll p rest (offer p m w).1

/-- The MANAGE REPLY messages of a reply group (R176); with `restart`, the last one ends restart pending
when it leaves its queue (R188). -/
def replyMsgs (s : State) (restart : Bool) (group : List Byte) : List QMsg :=
  let segs := segmentsFrom 10 0 group
  let msgs := segs.map fun d => s.ownMsg 4 kManageReply 0 d
  match msgs.getLast? with
  | none => []
  | some m => msgs.dropLast ++ [{ m with restartReply := restart }]

/-- ME offers a reply on the port of its source, its segments one after the other (R176). -/
def replyWith (restart : Bool) (src : Source) (code tag : Byte) (st : ReplyStatus) (results : List Byte)
    (w : Work) : Work :=
  offerAll (sourcePort src) (replyMsgs w.st restart (replyGroup code tag st results)) w

/-- A reply that has nothing to do with RESTART. -/
def reply (src : Source) (code tag : Byte) (st : ReplyStatus) (results : List Byte) (w : Work) : Work :=
  replyWith false src code tag st results w

/-- The request in the long-operation slot is answered, and the slot is freed (R182). -/
def answerSlot (st : ReplyStatus) (results : List Byte) (w : Work) : Work :=
  match w.st.me.slot with
  | none => w
  | some op => reply op.src op.code op.tag st results (w.setMe { w.st.me with slot := none })

end Sys2Proof.Machine
end

