-- ==== Sys2Proof/Machine/Brake.lean ====
section
/-! DEFINITION. BT: the limit and the merge, MODULATOR COMMANDs, channel faults and the path check
(05_channel_targets_and_modulators.md). -/

namespace Sys2Proof.Machine

/-- A channel's record. -/
def State.channel (s : State) (c : Fin 6) : ChannelRun := s.bt.channels.read c

/-- The work with a channel's record replaced. -/
def Work.setChannel (c : Fin 6) (r : ChannelRun) (w : Work) : Work :=
  w.setBt { w.st.bt with channels := w.st.bt.channels.write c r }

/-- The work with the path-check state replaced. -/
def Work.setCheck (k : PathCheck) (w : Work) : Work := w.setBt { w.st.bt with check := k }

/-- The limit of every channel (R81). -/
def State.limit (s : State) : Nat :=
  match s.goodValue .reservoir with
  | some v => min s.groupsInForce.ceiling v
  | none => s.groupsInForce.ceiling

/-- The merge of R82, from its inputs. -/
def mergeTarget (service demand : Nat) (deflated : Bool) (cap : Option Nat) (emergency : Bool)
    (limit : Nat) : Nat :=
  let raised := max service demand
  let capped :=
    match deflated && !emergency, cap with
    | true, some c => min raised c
    | _, _ => raised
  min (if emergency then limit else capped) limit

/-- The merged target of a channel (R82). -/
def State.merged (s : State) (c : Fin 6) : Nat :=
  let g := groupOf c
  mergeTarget (s.lu.read g).service (s.su.demand.read c) (s.tu.deflated.read g) (s.groupRec g).cap
    (s.du.mode == .emergency) s.limit

/-- Some channel's fault flag is set: the CHANNEL_FAULT condition (R89). -/
def judgeFaultCondition (w : Work) : Work := setPresent .channelFault (w.st.bt.channels.any (·.fault)) w

/-- The judgment of deviation or agreement (R88). -/
def judgeDeviation (c : Fin 6) (w : Work) : Work :=
  let r := w.st.channel c
  match r.configured && (w.st.record (.feedback c)).state == .good, r.feedback, r.lastCommanded with
  | true, some f, some k =>
    let deviating := decide (f > k + Config.deviationBound ∨ k > f + Config.deviationBound)
    if deviating != r.fault then
      if r.deviation.isRunning then w
      else w.setChannel c { r with deviation := .running Config.deviationTime }
    else w.setChannel c { r with deviation := .stopped }
  | _, _, _ => w

/-- The MODULATOR COMMAND of a channel with its current target (R86). -/
def commandMsg (s : State) (c : Fin 6) : QMsg :=
  s.ownMsg 1 kModulator (BitVec.ofNat 12 (c.val + 1)) (natHalf (s.channel c).target)

/-- The refresh timer after an offer (R86, R87). -/
def Timer.afterOffer (t : Timer) : Timer := t.loadedBy (.running Config.refreshTime)

/-- BT offers a MODULATOR COMMAND: the offer restarts the refresh timer, and Placed makes the target the
last commanded value, whose change is judged for deviation (R86, R88). -/
def offerCommand (c : Fin 6) (w : Work) : Work :=
  let r := offer .wb (commandMsg w.st c) w
  let old := r.1.st.channel c
  let restarted : ChannelRun := { old with refresh := old.refresh.afterOffer }
  match r.2 with
  | .placed =>
    let w1 := r.1.setChannel c { restarted with lastCommanded := some old.target }
    if old.lastCommanded = some old.target then w1 else judgeDeviation c w1
  | .discarded | .refused => r.1.setChannel c restarted

/-- A channel's target is set; a target that differs from the last commanded value is offered when it is
new, or when the channel has offered nothing since START or since it became configured (R84, R85, R86). -/
def setTarget (c : Fin 6) (t : Nat) (w : Work) : Work :=
  let r := w.st.channel c
  let first := r.refresh == .stopped
  let w1 :=
    if t = r.target then w else (w.setChannel c { r with target := t }).emit (.scTarget c t)
  if t ≠ r.target ∨ first then
    if r.lastCommanded ≠ some t then offerCommand c w1
    else if first then
      w1.setChannel c { w1.st.channel c with refresh := .running Config.refreshTime }
    else w1
  else w1

/-- The check pressure of a step (R94, R95). -/
def State.checkPressure (s : State) : PathStep → Nat
  | .rise => min Config.checkPressure s.limit
  | .fall => 0

/-- A channel's target is recomputed: merged, but for the channel under test, which keeps the check
pressure of its step (R82, R84, R94). Nothing is recomputed in START (R85). -/
def recomputeChannel (c : Fin 6) (w : Work) : Work :=
  if w.st.du.mode = .start ∨ !(w.st.channel c).configured then w
  else if w.st.bt.check.under = some c then
    match w.st.bt.check.step with
    | some st => setTarget c (w.st.checkPressure st) w
    | none => w
  else setTarget c (w.st.merged c) w

/-- The channels of a list are recomputed, in order. R84 leaves the order of the offers of one event open;
the model takes the channels in ascending order (DESIGN CHOICE, log 38). -/
def recomputeList : List (Fin 6) → Work → Work
  | [], w => w
  | c :: rest, w => recomputeList rest (recomputeChannel c w)

/-- Every configured channel is recomputed (R84). -/
def recomputeAll (w : Work) : Work := recomputeList channels w

/-- The channels of a group are recomputed (R84). -/
def recomputeGroup (g : Fin 3) (w : Work) : Work :=
  recomputeList [channelOf g .left, channelOf g .right] w

/-- A fault flag changes, its timer stopped; the condition is judged and SU is told (R89). -/
def setFault (c : Fin 6) (f : Bool) (w : Work) : Work :=
  let r := w.st.channel c
  let w1 := judgeFaultCondition (w.setChannel c { r with fault := f, deviation := .stopped })
  (if f then raise .channelFault (numDetail c) w1 else w1).emit (.su (.fault c f))

/-- Bits 7..4 of F10's byte as one live value: path-check result above the table check result (R159). -/
def State.checksField (s : State) : Nat := s.bt.check.overall.code * 4 + s.ts.check.code

/-- The overall result changes: SU and SC are told, and PATH_CHECK_FAILED's condition follows (R90,
R96). -/
def setOverall (r : PathResult) (w : Work) : Work :=
  if w.st.bt.check.overall = r then w
  else
    let w1 := setPresent .pathCheckFailed (r == .failed)
      (w.setCheck { w.st.bt.check with overall := r })
    w1.emitAll [.su (.path r), .scLive 9 w1.st.checksField]

/-- Every channel's path-check result becomes NOT_RUN (R92, R97). -/
def resetResults (w : Work) : Work :=
  w.setBt { w.st.bt with channels := w.st.bt.channels.map fun r => { r with result := .notRun } }

/-- The overall result and the six channel results as reply bytes (R96), fields of fixed number without a
count byte (DEDUCED, log 12). -/
def State.pathResults (s : State) : List Byte :=
  byteOf s.bt.check.overall.code :: s.bt.channels.cells.map fun r => byteOf r.result.code

/-- A pending request is answered and request pending becomes no (R96, R97). -/
def answerPathRequest (st : ReplyStatus) (results : List Byte) (w : Work) : Work :=
  if w.st.bt.check.requestPending then
    answerSlot st results (w.setCheck { w.st.bt.check with requestPending := false })
  else w

/-- No channel is under test. -/
def PathCheck.idle (k : PathCheck) : PathCheck := { k with under := none, step := none, stepTimer := .stopped }

/-- The check is complete (R96): the notice is raised before the reply is offered (DESIGN CHOICE, log 49).
With no channel configured every configured channel has PASSED, and so has the check (DEDUCED, log 52). -/
def completeCheck (w : Work) : Work :=
  let passed := w.st.bt.channels.all fun r => !r.configured || r.result == .passed
  let w1 := setOverall (if passed then .passed else .failed) (w.setCheck w.st.bt.check.idle)
  let w2 := if passed then w1 else raise .pathCheckFailed 0 w1
  answerPathRequest .done w2.st.pathResults w2

/-- The next configured channel of a list is begun with RISE, or the check is complete (R94, R96). A check that
starts while no channel is configured is complete at once (DEDUCED, log 52). -/
def beginAlong : List (Fin 6) → Work → Work
  | [], w => completeCheck w
  | c :: rest, w =>
    if (w.st.channel c).configured then
      let w1 := w.setCheck
        { w.st.bt.check with under := some c, step := some .rise, stepTimer := .running Config.stepTime }
      setTarget c (w1.st.checkPressure .rise) w1
    else beginAlong rest w

/-- The channels after a channel, in ascending order. -/
def channelsAfter (c : Fin 6) : List (Fin 6) := channels.filter fun d => c < d

/-- A check starts (R92). -/
def startCheck (w : Work) : Work := beginAlong channels (setOverall .running (resetResults w))

/-- A channel leaves the test with its result: its target is merged again, and the check goes on (R94,
R95, R96). -/
def leaveTest (c : Fin 6) (r : PathResult) (w : Work) : Work :=
  let w1 := w.setChannel c { w.st.channel c with result := r }
  beginAlong (channelsAfter c) (recomputeChannel c (w1.setCheck w1.st.bt.check.idle))

/-- The channel under test goes on to FALL (R95). -/
def beginFall (c : Fin 6) (w : Work) : Work :=
  setTarget c 0
    (w.setCheck { w.st.bt.check with step := some .fall, stepTimer := .running Config.stepTime })

/-- The path check is eligible (R91). -/
def State.eligible (s : State) : Bool :=
  (s.du.mode == .normal || s.du.mode == .fallback) && s.si.motion == .stationary && s.du.inEffect == 0

/-- A running check is aborted (R97). -/
def abortCheck (w : Work) : Work :=
  let tested := w.st.bt.check.under
  let w1 := setOverall .notRun (resetResults (w.setCheck w.st.bt.check.idle))
  let w2 := match tested with | some c => recomputeChannel c w1 | none => w1
  answerPathRequest .aborted [] w2

/-- Eligibility is judged: an automatic run starts, or a running check is aborted (R91, R92, R97). -/
def judgeEligible (w : Work) : Work :=
  if w.st.eligible then
    if w.st.bt.check.overall = .notRun then startCheck w else w
  else if w.st.bt.check.overall = .running then abortCheck w
  else w

/-- The refresh timer of a channel expires: its current target is offered, and the offer starts the timer
again (R87). -/
def refreshExpiry (c : Fin 6) (w : Work) : Work :=
  let w1 := w.setChannel c { w.st.channel c with refresh := .stopped }
  if w.st.du.mode = .start ∨ !(w.st.channel c).configured then w1 else offerCommand c w1

/-- The step timer expires: the channel under test has failed (R94, R95). -/
def stepExpiry (w : Work) : Work :=
  match w.st.bt.check.under with
  | some c => leaveTest c .failed w
  | none => w.setCheck w.st.bt.check.idle

/-- DU hands BT a new brake mode (R84, R85, R91). The spec does not order the recomputation and the judgment
of eligibility: the model recomputes first, so a channel that then begins or leaves a test may be offered
one command more (DESIGN CHOICE, log 42). -/
def brakeModeHanded (w : Work) : Work := judgeEligible (recomputeAll w)

/-- SI hands BT a feedback value of a GOOD record (R88, R94, R95). The spec gives no order for a value that
is judged for deviation and also meets a step of the path check; the model judges the deviation first,
against the last commanded value that the value answers (DESIGN CHOICE, log 37). -/
def feedbackHanded (c : Fin 6) (v : Nat) (w : Work) : Work :=
  let w1 := judgeDeviation c (w.setChannel c { w.st.channel c with feedback := some v })
  if w1.st.bt.check.under = some c then
    match w1.st.bt.check.step with
    | some .rise => if Config.riseMet ≤ v then beginFall c w1 else w1
    | some .fall => if v ≤ Config.fallMet then leaveTest c .passed w1 else w1
    | none => w1
  else w1

/-- A feedback record left GOOD (R89). -/
def feedbackLost (c : Fin 6) (w : Work) : Work :=
  w.setChannel c { w.st.channel c with feedback := none, deviation := .stopped }

/-- A channel becomes unconfigured (R80). -/
def unconfigure (c : Fin 6) (w : Work) : Work :=
  let r := w.st.channel c
  let w1 := w.setChannel c
    { r with configured := false, target := 0, refresh := .stopped, result := .notRun }
  let w2 := if r.target = 0 then w1 else w1.emit (.scTarget c 0)
  let w3 :=
    if r.fault then setFault c false w2
    else w2.setChannel c { w2.st.channel c with deviation := .stopped }
  w3.emit (.su (.configured c false))

/-- A channel becomes configured (R80). -/
def configure (c : Fin 6) (w : Work) : Work :=
  recomputeChannel c
    ((w.setChannel c { w.st.channel c with configured := true }).emit (.su (.configured c true)))

/-- A channel takes the configured field in force (R79, R80). -/
def followConfigured (c : Fin 6) (w : Work) : Work :=
  let now := (w.st.groupRec (groupOf c)).configured
  if now = (w.st.channel c).configured then w
  else if now then configure c w
  else unconfigure c w

/-- Every channel of a list takes the configured field in force. -/
def followAll : List (Fin 6) → Work → Work
  | [], w => w
  | c :: rest, w => followAll rest (followConfigured c w)

/-- A channel under test that has become unconfigured leaves the test, and the check goes on with the next
configured channel (R80, R96; DESIGN CHOICE, log 18). -/
def passOver (w : Work) : Work :=
  match w.st.bt.check.under with
  | some c =>
    if (w.st.channel c).configured then w else beginAlong (channelsAfter c) (w.setCheck w.st.bt.check.idle)
  | none => w

/-- The configured fields in force may have changed: every channel follows before the path check goes on, so
a channel that the event unconfigures is passed over with no command (R80). -/
def followGroups (w : Work) : Work := passOver (followAll channels w)

end Sys2Proof.Machine
end

