-- ==== Sys2Proof/Machine/Tyre.lean ====
section
/-! DEFINITION. TU: tyre reports, bands, fast leak, missing timers, group states and the worst tyre
state (06_tyre_supervision.md); sensor learning (07_wheel_sensor_learning.md). -/

namespace Sys2Proof.Machine

/-- A wheel's stored record. -/
def State.wheelRec (s : State) (p : Fin 24) : WheelRec := s.tables.wheels.records.read p

/-- A wheel's runtime fields. -/
def State.wheel (s : State) (p : Fin 24) : WheelRun := s.tu.wheels.read p

/-- The work with a wheel's runtime fields replaced. -/
def Work.setWheel (p : Fin 24) (r : WheelRun) (w : Work) : Work :=
  w.setTu { w.st.tu with wheels := w.st.tu.wheels.write p r }

/-- A wheel's missing timer is loaded with its runtime fields. A timer loaded while the tick of the same
moment has still to be taken is left as it is by that tick (R108). -/
def Work.loadWheel (p : Fin 24) (r : WheelRun) (w : Work) : Work :=
  let w1 := w.setWheel p r
  w1.setTu { w1.st.tu with justLoaded := w1.st.tu.justLoaded.write p w1.st.tu.tickDue }

/-- The work with the learn state replaced. -/
def Work.setLearn (l : LearnRec) (w : Work) : Work := w.setTu { w.st.tu with learn := l }

/-- The compensated pressure of R105. -/
def compensate (p : Nat) (t : Int) : Nat :=
  min (divHalfUp ((p + 101) * 293) (t + 273).toNat - 101) Config.tyreMax

/-- The pressure ratio q of R106. -/
def pressureRatio (pc n : Nat) : Nat := pc * 1000 / n

/-- The raw band of q (R106). -/
def rawBand (t : WheelsTable) (q : Nat) : WheelState :=
  if q < t.qDefl then .deflated
  else if q < t.qLow then .low
  else if t.qHigh ≤ q then .high
  else .normal

/-- The state after a report that finds the record in state `before` (R106). A record configured in force
that takes a report holds a sensor ID, so UNLEARNED, which the table does not list, is banded as
UNHEARD. -/
def bandAfter (t : WheelsTable) (before : WheelState) (q : Nat) : WheelState :=
  match before with
  | .unheard | .missing | .normal | .unlearned => rawBand t q
  | .low =>
    if q < t.qDefl then .deflated
    else if q < t.qLow + Config.bandMargin then .low
    else if t.qHigh ≤ q then .high
    else .normal
  | .deflated =>
    if q < t.qDefl + Config.bandMargin then .deflated
    else if q < t.qLow + Config.bandMargin then .low
    else rawBand t q
  | .high => if t.qHigh ≤ q + Config.bandMargin then .high else rawBand t q

/-- The rate of the fast-leak judgment in kPa per minute (R107). -/
def leakRate (before after dt : Nat) : Int := divTrunc (((before : Int) - after) * 60000) dt

/-- The fast-leak flag after a report (R107). -/
def leakAfter (threshold : Nat) (r : WheelRun) (pc : Nat) (now : Word) : Bool :=
  match r.pressure, r.time with
  | some before, some t =>
    let dt := (now - t).toNat
    if 1 ≤ dt ∧ dt ≤ Config.leakWindow then
      let rate := leakRate before pc dt
      if r.leak then !decide (rate * 2 < threshold) else decide ((threshold : Int) ≤ rate)
    else r.leak
  | _, _ => r.leak

/-- The runtime fields after an accepted report (R107 steps 1 to 5). -/
def acceptedRun (t : WheelsTable) (n : Nat) (now : Word) (f : TyreFields) (r : WheelRun) : WheelRun :=
  let pc := compensate f.pressure f.temperature
  { state := bandAfter t r.state (pressureRatio pc n), leak := leakAfter t.leak r pc now,
    pressure := some pc, temperature := some f.temperature, time := some now,
    lowBattery := f.lowBattery, missing := some t.missing }

/-- The runtime fields of a restarted record (R100, R103). -/
def State.restartedRun (s : State) (p : Fin 24) : WheelRun :=
  { WheelRun.fresh (s.wheelRec p) with
    missing :=
      if s.wheelConfigured p && (s.wheelRec p).sensorId.isSome then some s.wheelsInForce.missing else none }

/-- Some wheel is in a state. -/
def State.anyWheel (s : State) (st : WheelState) : Bool := s.tu.wheels.any (·.state == st)

/-- The tyre conditions (R109). -/
def judgeTyreConditions (w : Work) : Work :=
  let s := w.st
  setPresent .tyreFastLeak (s.tu.wheels.any (·.leak))
    (setPresent .tyreMissing (s.anyWheel .missing)
      (setPresent .tyreHigh (s.anyWheel .high)
        (setPresent .tyreDeflated (s.anyWheel .deflated) (setPresent .tyreLow (s.anyWheel .low) w))))

/-- The notice of an entry into a state (R109). -/
def entryNotice : WheelState → Option NoticeKind
  | .low => some .tyreLow
  | .deflated => some .tyreDeflated
  | .high => some .tyreHigh
  | .missing => some .tyreMissing
  | .normal | .unheard | .unlearned => none

/-- The notices of the entries that a change of a record makes (R109). -/
def raiseEntries (p : Fin 24) (old new : WheelRun) (w : Work) : Work :=
  let w1 :=
    if new.state = old.state then w
    else match entryNotice new.state with
      | some k => raise k (numDetail p) w
      | none => w
  if new.leak && !old.leak then raise .tyreFastLeak (numDetail p) w1 else w1

/-- The WHEEL DETAIL message of a wheel (R110). Axle, side and placement are the stored record's, also in a
detail offered as the WHEELS section becomes invalid (DESIGN CHOICE, log 39). -/
def wheelDetailMsg (s : State) (p : Fin 24) : QMsg :=
  s.ownMsg 5 kWheelDetail (BitVec.ofNat 12 (p.val + 1)) (wheelDetailData (s.wheelRec p) (s.wheel p))

/-- State, fast-leak flag or low-battery flag differ (R107, R110). -/
def detailChanged (old new : WheelRun) : Bool :=
  old.state != new.state || old.leak != new.leak || old.lowBattery != new.lowBattery

/-- Some record configured in force, of a group, is in a state (R111). -/
def State.groupHas (s : State) (g : Fin 3) (st : WheelState) : Bool :=
  wheelsList.any fun p =>
    s.wheelConfigured p && decide ((s.wheelRec p).group = g) && (s.wheel p).state == st

/-- A group's states are derived again; a change goes to BT and SU (R111). Where both states of a group change
at one event, R111 does not say whether SU takes one hand-off or two: the model hands both in one, and SU
judges no derate between them (DESIGN CHOICE, log 55). -/
def judgeGroup (g : Fin 3) (w : Work) : Work :=
  let d := w.st.groupHas g .deflated
  let l := w.st.groupHas g .low
  let d0 := w.st.tu.deflated.read g
  let l0 := w.st.tu.low.read g
  let w1 := w.setTu
    { w.st.tu with deflated := w.st.tu.deflated.write g d, low := w.st.tu.low.write g l }
  let w2 := if d = d0 then w1 else w1.emit (.btCap g)
  if d = d0 ∧ l = l0 then w2 else w2.emit (.su (.tyre g d l))

/-- The order of R112, NORMAL apart. -/
def worstOrder : List WheelState := [.deflated, .low, .missing, .high, .unheard, .unlearned]

/-- The worst tyre state (R112). -/
def State.worstNow (s : State) : WheelState :=
  (worstOrder.find? fun st => wheelsList.any fun p => s.wheelConfigured p && (s.wheel p).state == st).getD
    .normal

/-- The worst tyre state is derived again and handed to SC when it differs (R112). -/
def judgeWorst (w : Work) : Work :=
  let x := w.st.worstNow
  if x = w.st.tu.worst then w else (w.setTu { w.st.tu with worst := x }).emit (.scLive 3 x.code)

/-- Group states and worst state are derived again (R111, R112). -/
def judgeTyres (w : Work) : Work := judgeWorst (judgeGroup 2 (judgeGroup 1 (judgeGroup 0 w)))

/-- A record has changed from `old` to what it holds: conditions, notices, WHEEL DETAIL, group states and
worst state (R107, R109 to R112). The order of the notices and the WHEEL DETAIL is the model's (DESIGN CHOICE,
log 49). -/
def wheelChanged (p : Fin 24) (old : WheelRun) (w : Work) : Work :=
  let new := w.st.wheel p
  let w1 := raiseEntries p old new (judgeTyreConditions w)
  let w2 := if detailChanged old new then (offer .fl (wheelDetailMsg w1.st p) w1).1 else w1
  judgeTyres w2

/-- A record is restarted, and the changes this makes are acted on (R100, R103). -/
def restartWheel (p : Fin 24) (w : Work) : Work :=
  wheelChanged p (w.st.wheel p) (w.loadWheel p (w.st.restartedRun p))

/-- Every record is restarted: the validity of WHEELS has changed (R103). The spec gives the records of one
event no order: the model takes the positions in ascending order, which settles the ages of the notices and
WHEEL DETAILs and which of them a full queue discards (DESIGN CHOICE, log 43). -/
def restartWheels : List (Fin 24) → Work → Work
  | [], w => w
  | p :: rest, w => restartWheels rest (restartWheel p w)

/-- An accepted report for a position (R107). -/
def acceptReport (p : Fin 24) (f : TyreFields) (w : Work) : Work :=
  let old := w.st.wheel p
  wheelChanged p old
    (w.loadWheel p (acceptedRun w.st.wheelsInForce (w.st.wheelRec p).nominal w.st.time f old))

/-- The position whose stored record holds a sensor ID. -/
def State.positionOf (s : State) (id : Word) : Option (Fin 24) :=
  wheelsList.find? fun p => (s.wheelRec p).sensorId == some id

/-- The learn state after a learn that ended (R118 to R120). -/
def LearnRec.ended (l : LearnRec) (o : LearnOutcome) : LearnRec :=
  { l with state := .idle, outcome := o, timeout := .stopped, candidates := [] }

/-- The entry of a sensor ID after one more report (R117). -/
def Candidate.heard (e : Candidate) (rapid : Bool) : Candidate :=
  { e with count := min (e.count + 1) 255, rapidSeen := e.rapidSeen || rapid }

/-- The candidate list after an unknown report (R117). -/
def updateCandidates (now : Word) (f : TyreFields) (l : List Candidate) : List Candidate :=
  if l.any (·.sensorId == f.sensorId) then
    l.map fun e => if e.sensorId = f.sensorId then e.heard f.rapid else e
  else
    (if Config.candidateCapacity ≤ l.length then l.drop 1 else l)
      ++ [{ sensorId := f.sensorId, count := 1, rapidSeen := f.rapid, firstSeen := now }]

/-- The entry qualifies (R118). -/
def Candidate.qualifies (e : Candidate) : Bool := Config.learnReports ≤ e.count && e.rapidSeen

/-- A sensor ID is written into a stored record. -/
def Work.setSensorId (p : Fin 24) (id : Option Word) (w : Work) : Work :=
  w.setTables { w.st.tables with
    wheels := { w.st.tables.wheels with
      records := w.st.tables.wheels.records.write p { w.st.wheelRec p with sensorId := id } } }

/-- The assignment of R118 and R113. R118 lets steps 3 and 4 come in either order with what follows from the
report: the model ends the learn first and raises LEARN_DONE last (DESIGN CHOICE, log 49). -/
def assign (p : Fin 24) (f : TyreFields) (w : Work) : Work :=
  let w1 := w.setSensorId p (some f.sensorId)
  let w2 := w1.loadWheel p (w1.st.restartedRun p)
  raise .learnDone (numDetail p)
    (acceptReport p f (w2.setLearn (w2.st.tu.learn.ended .assigned)))

/-- An unknown report is handed to learning (R117, R118). -/
def learnReport (f : TyreFields) (w : Work) : Work :=
  let l := w.st.tu.learn
  let cs := updateCandidates w.st.time f l.candidates
  let w1 := w.setLearn { l with candidates := cs }
  match l.position, cs.find? (·.sensorId == f.sensorId) with
  | some p, some e => if e.qualifies then assign p f w1 else w1
  | _, _ => w1

/-- TU takes a TYRE REPORT that LR hands it (R104). -/
def takeReport (fr : Frame) (w : Work) : Work :=
  match readTyre fr.data, fr.hdr.selector == 0 with
  | some f, true =>
    match w.st.positionOf f.sensorId with
    | some p => if w.st.wheelConfigured p then acceptReport p f w else w
    | none => if w.st.tu.learn.state = .listening then learnReport f w else w
  | _, _ => w

/-- A wheel one second later: a running missing timer loses one second while MOVING, but for one that was
loaded at the moment of the tick (R108). -/
def State.wheelAfterTick (s : State) (p : Fin 24) : WheelRun :=
  if s.si.motion = .moving ∧ s.tu.justLoaded.read p = false then
    { s.wheel p with missing := (s.wheel p).missing.map (· - 1) }
  else s.wheel p

/-- The second tick (R108). -/
def secondTick (w : Work) : Work :=
  w.setTu
    { w.st.tu with
      tickDue := false, justLoaded := Bank.fill 24 false, wheels := Bank.ofFn w.st.wheelAfterTick }

/-- A missing timer has reached 0 (R108). -/
def missingExpiry (p : Fin 24) (w : Work) : Work :=
  let old := w.st.wheel p
  wheelChanged p old (w.setWheel p { old with state := .missing, missing := none })

/-- A listening learn is cancelled (R120). -/
def cancelLearn (w : Work) : Work :=
  if w.st.tu.learn.state = .listening then w.setLearn (w.st.tu.learn.ended .cancelled) else w

/-- A learn starts for a position (R116). -/
def startLearn (p : Fin 24) (w : Work) : Work :=
  w.setLearn
    { w.st.tu.learn with state := .listening, position := some p,
                         timeout := .running Config.learnTime, candidates := [] }

/-- The learn timeout expires while listening (R119). -/
def learnExpiry (w : Work) : Work :=
  let l := w.st.tu.learn
  let w1 := w.setLearn (l.ended .timeout)
  match l.position with
  | some p => raise .learnTimeout (numDetail p) w1
  | none => w1

/-- The missing timers are loaded when START ends, and the worst state is derived (R102, R112). -/
def startTyres (w : Work) : Work :=
  judgeWorst
    (w.setTu { w.st.tu with
      justLoaded := Bank.fill 24 w.st.tu.tickDue
      wheels := Bank.ofFn fun p => { w.st.wheel p with missing := (w.st.restartedRun p).missing } })

end Sys2Proof.Machine
end

