-- ==== Sys2Proof/Machine/Stability.lean ====
section
/-! DEFINITION. SU: the margin, the activation conditions, the stability states, test pulses, intervention
and release (08_roll_stability.md). -/

namespace Sys2Proof.Machine

/-- The combination fraction over the groups of GOOD quality (R127). -/
def combinationFraction (loads : Bank LoadCopy 3) : Nat :=
  let good := loads.cells.filter fun x => x.quality == .good
  if good.isEmpty then 1024
  else min ((good.map fun x => x.load.getD 0).sum * 1024 / (good.map (·.rated)).sum) 1024

/-- The critical acceleration along a list of points at a fraction (R128). -/
def criticalAlong (f : Nat) : List (Nat × Nat) → Int
  | [] => 0
  | [p] => p.2
  | p :: q :: rest =>
    if f ≤ p.1 then p.2
    else if f < q.1 then p.2 + divNearest (((q.2 : Int) - p.2) * ((f : Int) - p.1)) (q.1 - p.1)
    else criticalAlong f (q :: rest)

/-- a_crit: absent when the table in force holds no points (R128). -/
def criticalAt (f : Nat) (ps : List (Nat × Nat)) : Option Int :=
  if ps.isEmpty then none else some (criticalAlong f ps)

/-- The derate (R129). -/
def derateOf (t : StabTable) (deflated low : Bank Bool 3) : Nat :=
  (groupsList.map fun g =>
    if deflated.read g then t.dDefl else if low.read g then t.dLow else 0).foldl max 0

/-- a_eff (R129). -/
def thresholdOf (critical : Option Int) (derate : Nat) : Option Int :=
  critical.map fun a => max (a - derate) (Config.thresholdFloor : Int)

/-- The margin (R129). -/
def marginOf (threshold ay : Option Int) : Option Int := do
  let a ← threshold
  let y ← ay
  some (a - (y.natAbs : Int))

/-- F_c, a_crit, derate, a_eff and m recomputed from the copies and the parameters in force (R131
step 2). -/
def StabUnit.recomputed (u : StabUnit) (t : StabTable) : StabUnit :=
  let f := combinationFraction u.inputs.loads
  let a := criticalAt f t.critical
  let d := derateOf t u.inputs.deflated u.inputs.low
  let e := thresholdOf a d
  { u with fraction := f, critical := a, derate := d, threshold := e, margin := marginOf e u.inputs.ay }

/-- The handed value is taken into its copy, or the expiry is noted (R131 step 1). -/
def StabUnit.take (u : StabUnit) (t : StabTable) : SuEvent → StabUnit
  | .motionSample ay st | .lateralState ay st => { u with inputs := { u.inputs with ay := ay, lateral := st } }
  | .vref v => { u with inputs := { u.inputs with vref := v } }
  | .wheelValue c v =>
    { u with inputs := { u.inputs with
        wheel := u.inputs.wheel.write c .good, speeds := u.inputs.speeds.write c (some v) } }
  | .params => u
  | .wheelState c st => { u with inputs := { u.inputs with wheel := u.inputs.wheel.write c st } }
  | .load g x => { u with inputs := { u.inputs with loads := u.inputs.loads.write g x } }
  | .tyre g d l =>
    { u with inputs := { u.inputs with
        deflated := u.inputs.deflated.write g d, low := u.inputs.low.write g l } }
  | .fault c f => { u with inputs := { u.inputs with fault := u.inputs.fault.write c f } }
  | .configured c b => { u with inputs := { u.inputs with configured := u.inputs.configured.write c b } }
  | .path r => { u with inputs := { u.inputs with path := r } }
  | .mode m => { u with inputs := { u.inputs with mode := m } }
  | .pulseExpiry => { u with pulseTimer := .stopped }
  | .testExpiry => { u with testTimer := .running t.tRep }
  | .minExpiry => { u with minTimer := .expired }
  | .releaseExpiry => { u with releaseTimer := .stopped }

/-- A hand-off from LU that brings what SU already holds is no change and no event (R67; DESIGN CHOICE, log 50). -/
def StabUnit.unchangedBy (u : StabUnit) : SuEvent → Bool
  | .load g x => u.inputs.loads.read g == x
  | _ => false

/-- The activation conditions with a lowest speed (R130). -/
def State.stabConditions (s : State) (speed : Nat) : Bool :=
  let x := s.su.inputs
  s.stabInForce.enable && s.valid .stability && x.path == .passed && x.lateral == .good
    && (x.mode == .normal || x.mode == .fallback) && decide (speed ≤ x.vref)

/-- The conditions for entry (R130). -/
def State.entryHolds (s : State) : Bool := s.stabConditions s.stabInForce.vGate

/-- The conditions for staying (R130). -/
def State.stayHolds (s : State) : Bool := s.stabConditions (s.stabInForce.vGate - Config.stayMargin)

/-- The margin is present and below a bound. -/
def State.marginBelow (s : State) (n : Nat) : Bool :=
  match s.su.margin with
  | some m => m < (n : Int)
  | none => false

/-- The margin is present and a bound or more. -/
def State.marginFrom (s : State) (n : Nat) : Bool :=
  match s.su.margin with
  | some m => (n : Int) ≤ m
  | none => false

/-- INACTIVE: every timer stopped, no pulse, level 0, unavailable reported no (R132, R137). -/
def StabUnit.inactive (u : StabUnit) : StabUnit :=
  { u with state := .inactive, testChannel := none, pulseTimer := .stopped, testTimer := .stopped,
           unavailable := false, level := 0, minTimer := .stopped, releaseTimer := .stopped }

/-- The state becomes INACTIVE. -/
def stabToInactive (w : Work) : Work := w.setSu w.st.su.inactive

/-- Entry into INTERVENING (R139, R137). -/
def stabToIntervening (w : Work) : Work :=
  let u := w.st.su
  let t := w.st.stabInForce
  raise .intervention (BitVec.ofNat 16 u.state.code)
    (w.setSu
      { u with state := .intervening, testChannel := none, pulseTimer := .stopped, testTimer := .stopped,
               minTimer := .running t.tMinInt, releaseTimer := .stopped,
               level := if u.state = .releasing then u.level else min t.pIntStart t.pIntMax })

/-- Entry into RELEASING (R141). -/
def stabToReleasing (w : Work) : Work :=
  w.setSu { w.st.su with state := .releasing, minTimer := .stopped,
                         releaseTimer := .running Config.releaseTime }

/-- Entry into NORMAL (R133, R138). -/
def stabToNormal (w : Work) : Work := w.setSu { w.st.su with state := .normal, testTimer := .stopped }

/-- Entry into WATCH from NORMAL or RELEASING: a watch stay begins (R133). -/
def stabToWatch (w : Work) : Work := w.setSu { w.st.su with state := .watch, unavailable := false }

/-- A pulse ends to WATCH: the watch stay continues, and the test timer starts if stopped (R137). -/
def endPulse (w : Work) : Work :=
  let u := w.st.su
  w.setSu
    { u with state := .watch, testChannel := none, pulseTimer := .stopped,
             testTimer := if u.testTimer = .stopped then .running w.st.stabInForce.tRep else u.testTimer }

/-- A pulse starts on a channel (R135). -/
def startPulse (c : Fin 6) (w : Work) : Work :=
  w.setSu { w.st.su with state := .testing, testChannel := some c,
                         pulseTimer := .running w.st.stabInForce.tPulse }

/-- The inner side of the curve; none while a_y is 0 or absent (R134). -/
def State.innerSide (s : State) : Option Side :=
  match s.su.inputs.ay with
  | none => none
  | some y => if 0 < y then some .left else if y < 0 then some .right else none

/-- A channel can carry a test pulse (R134, R137). -/
def State.testable (s : State) (c : Fin 6) : Bool :=
  s.su.inputs.configured.read c && !s.su.inputs.fault.read c && s.su.inputs.wheel.read c == .good

/-- The test channel of an inner side (R134). -/
def State.testChoice (s : State) (sd : Side) : Option (Fin 6) :=
  (s.stabInForce.order.map fun g => channelOf g sd).find? s.testable

/-- The choice of a test channel in WATCH: a pulse, or TEST_UNAVAILABLE once per watch stay (R134, R135).
The result tells whether a pulse started. -/
def choosePulse (allowPulse : Bool) (w : Work) : Work × Bool :=
  match w.st.innerSide with
  | none => (w, false)
  | some sd =>
    match w.st.testChoice sd with
    | some c => if allowPulse then (startPulse c w, true) else (w, false)
    | none =>
      if w.st.su.unavailable then (w, false)
      else
        (raise .testUnavailable (BitVec.ofNat 16 sd.code)
          (w.setSu { w.st.su with unavailable := true }), false)

/-- The slip of a wheel in thousandths (R136). -/
def slipOf (v vref : Nat) : Nat := if vref ≤ v ∨ vref < 500 then 0 else (vref - v) * 1000 / vref

/-- The handed wheel-speed value shows the tested wheel lifting (R136). -/
def State.liftFound (s : State) : SuEvent → Bool
  | .wheelValue c v =>
    s.su.testChannel == some c && s.su.inputs.wheel.read c == .good
      && decide (s.stabInForce.liftSlip ≤ slipOf v s.su.inputs.vref)
  | _ => false

/-- The channel under a pulse can no longer carry it (R137). -/
def State.pulseLost (s : State) : Bool :=
  match s.su.testChannel with
  | some c => !s.testable c
  | none => false

/-- What the event itself brings about in the present state (R131 step 4, R136, R137, R138); the result
tells whether the state changed. -/
def eventTransition (allowPulse : Bool) (e : SuEvent) (w : Work) : Work × Bool :=
  let s := w.st
  match s.su.state with
  | .testing =>
    if s.marginBelow s.stabInForce.mInt || s.liftFound e then (stabToIntervening w, true)
    else if s.pulseLost || e == .pulseExpiry then (endPulse w, true)
    else (w, false)
  | .watch =>
    if e = .testExpiry ∧ s.marginBelow s.stabInForce.mTest ∧ !s.marginBelow s.stabInForce.mInt then
      choosePulse allowPulse w
    else (w, false)
  | .inactive | .normal | .intervening | .releasing => (w, false)

/-- The margin transition due in the present state, if any (R133, R136, R140, R141). -/
def marginTransition (allowPulse : Bool) (w : Work) : Work × Bool :=
  let s := w.st
  let t := s.stabInForce
  match s.su.state with
  | .inactive => (w, false)
  | .normal =>
    if s.marginBelow t.mInt then (stabToIntervening w, true)
    else if s.marginBelow t.mWatch then (stabToWatch w, true)
    else (w, false)
  | .watch =>
    if s.marginBelow t.mInt then (stabToIntervening w, true)
    else if s.marginFrom (t.mWatch + t.hysteresis) then (stabToNormal w, true)
    else if s.marginBelow t.mTest && s.su.testTimer == .stopped then choosePulse allowPulse w
    else (w, false)
  | .testing => if s.marginBelow t.mInt then (stabToIntervening w, true) else (w, false)
  | .intervening =>
    if s.su.minTimer = .expired ∧ s.marginFrom t.mWatch then (stabToReleasing w, true) else (w, false)
  | .releasing =>
    if s.stayHolds && s.marginBelow t.mInt then (stabToIntervening w, true) else (w, false)

/-- Transitions are taken while one is due (R131 step 4); the number bounds them. The result tells whether
one was taken. -/
def marginTransitions (allowPulse : Bool) : Nat → Work → Work × Bool
  | 0, w => (w, false)
  | n + 1, w =>
    let r := marginTransition allowPulse w
    if r.2 then ((marginTransitions allowPulse n r.1).1, true) else (r.1, false)

/-- Transitions that one event of SU can take at most. -/
def transitionBound : Nat := 8

/-- The activation conditions for the present state (R132). -/
def judgeActivation (w : Work) : Work :=
  let s := w.st
  let cut := s.su.inputs.mode == .emergency || s.su.inputs.mode == .maintenance
  match s.su.state with
  | .inactive => if s.entryHolds then stabToNormal w else w
  | .normal | .watch | .testing => if s.stayHolds then w else stabToInactive w
  | .intervening =>
    if s.stayHolds then w else if cut then stabToInactive w else stabToReleasing w
  | .releasing => if !s.stayHolds && cut then stabToInactive w else w

/-- The STABILITY_INACTIVE_FAULT condition (R143). -/
def State.inactiveFault (s : State) : Bool :=
  s.su.state == .inactive && s.stabInForce.enable && s.valid .stability
    && decide (s.stabInForce.vGate ≤ s.su.inputs.vref)
    && (s.su.inputs.lateral != .good || s.su.inputs.path != .passed)

/-- The condition is judged, and its beginning raises the notice (R143). -/
def judgeInactiveFault (w : Work) : Work :=
  let now := w.st.inactiveFault
  let before := (w.st.nu.notice .stabilityInactiveFault).present
  let w1 := setPresent .stabilityInactiveFault now w
  if now && !before then
    raise .stabilityInactiveFault
      (BitVec.ofNat 16
        (bit (w.st.su.inputs.lateral != .good) + 2 * bit (w.st.su.inputs.path != .passed))) w1
  else w1

/-- The state when the release ends (R141); the judgments of R133 follow. -/
def endRelease (allowPulse : Bool) (w : Work) : Work :=
  let w1 := w.setSu { w.st.su with releaseTimer := .stopped }
  (marginTransitions allowPulse transitionBound
    (if !w1.st.stayHolds then stabToInactive w1
     else if w1.st.marginFrom w1.st.stabInForce.mWatch then stabToNormal w1
     else stabToWatch w1)).1

/-- One ramp step or release step (R140, R141). -/
def rampStep (allowPulse : Bool) (e : SuEvent) (w : Work) : Work :=
  let u := w.st.su
  let t := w.st.stabInForce
  match u.state, e with
  | .intervening, .motionSample _ _ => w.setSu { u with level := min (u.level + t.rampUp) t.pIntMax }
  | .releasing, .motionSample _ _ | .releasing, .releaseExpiry =>
    let w1 := w.setSu { u with level := u.level - t.rampDown, releaseTimer := .running Config.releaseTime }
    if u.level - t.rampDown = 0 then endRelease allowPulse w1 else w1
  | _, _ => w

/-- The stability demand of a channel (R142). -/
def State.demandOf (s : State) (c : Fin 6) : Nat :=
  match s.su.state with
  | .inactive | .normal | .watch => 0
  | .testing => if s.su.testChannel = some c then s.stabInForce.pTest else 0
  | .intervening | .releasing =>
    if s.su.inputs.configured.read c && !s.su.inputs.fault.read c then s.su.level else 0

/-- The demands are derived again, and each change is handed to BT (R142). -/
def deriveDemands (w : Work) : Work :=
  let new : Bank Nat 6 := Bank.ofFn w.st.demandOf
  let changed := channels.filter fun c => new.read c != w.st.su.demand.read c
  (w.setSu { w.st.su with demand := new }).emitAll (changed.map HandOff.btDemand)

/-- What SU hands on when an event is done: the state and F_c to SC, the test channel to SI (R127, R131,
R135, R137). -/
def handStab (before : StabUnit) (w : Work) : Work :=
  let u := w.st.su
  let w1 := if u.state = before.state then w else w.emit (.scLive 2 u.state.code)
  let w2 := if u.fraction = before.fraction then w1 else w1.emit (.scFraction u.fraction)
  if u.testChannel = before.testChannel then w2 else w2.emit .siTestChannel

/-- SU takes an event (R131). A test pulse starts only where `allowPulse` lets it (log 4). -/
def stabEvent (allowPulse : Bool) (e : SuEvent) (w : Work) : Work :=
  let before := w.st.su
  if before.unchangedBy e then w
  else
    let t := w.st.stabInForce
    let w1 := w.setSu ((before.take t e).recomputed t)
    let w2 := judgeInactiveFault (judgeActivation w1)
    let moved := w2.st.su.state != before.state
    let r := eventTransition allowPulse e w2
    let q := marginTransitions allowPulse transitionBound r.1
    let w3 := if moved || r.2 || q.2 then q.1 else rampStep allowPulse e q.1
    handStab before (deriveDemands w3)

end Sys2Proof.Machine
end

