-- ==== Sys2Proof/Machine/Status.lean ====
section
/-! DEFINITION. SC: live values, composed content, sending, and rear matching
(10_status_messages.md). -/

namespace Sys2Proof.Machine

/-- A field's content: its override value while the source in force is OVERRIDE, its live value otherwise
(R161). -/
def State.fieldContent (s : State) (f : Fin 12) : Nat :=
  if s.valid .status && s.sc.overridden.read f then (s.tables.status.fields.read f).value
  else s.sc.live.read f

/-- The composed content (R161). -/
def State.content (s : State) : Bank Nat 12 := Bank.ofFn s.fieldContent

/-- The content is news: it differs from the last-sent copy in a field whose change flag in force is set
(R163). -/
def State.isNews (s : State) : Bool :=
  (indices 12).any fun f =>
    (s.statusInForce.fields.read f).change && s.fieldContent f != s.sc.lastSent.read f

/-- A timer loaded with an interval; 0 keeps it stopped (R164). -/
def intervalTimer (n : Nat) : Timer := if n = 0 then .stopped else .running n

/-- The own STATUS message (R162). -/
def statusMsg (s : State) : QMsg := s.ownMsg 2 kStatus 0 (statusData s.content)

/-- An offer of STATUS (R165). Placed reloads the periodic timer; one that has run out at this moment keeps
its expiry, which then places the content again (R164). -/
def offerStatus (onChange : Bool) (w : Work) : Work :=
  let content := w.st.content
  let r := offer .fl (statusMsg w.st) w
  let s := r.1.st
  let started : StatusUnit := { s.sc with minTimer := .running s.statusInForce.minInterval }
  match r.2 with
  | .placed =>
    r.1.setSc { started with
      lastSent := content, periodic := s.sc.periodic.loadedBy (intervalTimer s.statusInForce.periodic) }
  | .discarded | .refused => r.1.setSc { started with pendingNews := started.pendingNews || onChange }

/-- SC judges the composed content; nothing is offered in START (R162, R163). -/
def judgeNews (w : Work) : Work :=
  if !w.st.sc.sending || !w.st.isNews then w
  else if w.st.sc.minTimer.isRunning then w.setSc { w.st.sc with pendingNews := true }
  else offerStatus true w

/-- A live value is taken, and the content is composed and judged (R159, R161). -/
def liveHanded (f : Fin 12) (v : Nat) (w : Work) : Work :=
  judgeNews (w.setSc { w.st.sc with live := w.st.sc.live.write f v })

/-- BT hands a target: F7 is the highest divided by 5 (R159). -/
def targetHanded (c : Fin 6) (t : Nat) (w : Work) : Work :=
  let ts := w.st.sc.targets.write c t
  liveHanded 6 (ts.cells.foldl max 0 / 5) (w.setSc { w.st.sc with targets := ts })

/-- F8 from SC's copies: the loads of the groups of GOOD quality (R159). -/
def combinationLoad (loads : Bank (Option Nat) 3) (qualities : Bank LoadQuality 3) : Nat :=
  min ((groupsList.map fun g => if qualities.read g = .good then (loads.read g).getD 0 else 0).sum / 10) 1023

/-- LU hands L and load quality of a group; what SC already holds is no hand-off (R67, R159; DESIGN CHOICE,
log 50). -/
def loadHanded (g : Fin 3) (l : Option Nat) (q : LoadQuality) (w : Work) : Work :=
  if w.st.sc.loads.read g = l ∧ w.st.sc.qualities.read g = q then w
  else
    let ls := w.st.sc.loads.write g l
    let qs := w.st.sc.qualities.write g q
    liveHanded 7 (combinationLoad ls qs) (w.setSc { w.st.sc with loads := ls, qualities := qs })

/-- F9 from SC's copy of F_c (R159). -/
def fractionField (f : Nat) : Nat := min (f / 4) 255

/-- SU hands F_c (R127, R159). -/
def fractionHanded (f : Nat) (w : Work) : Work :=
  liveHanded 8 (fractionField f) (w.setSc { w.st.sc with fraction := f })

/-- START has ended: the periodic timer starts, and the content is judged (R162). -/
def startSending (w : Work) : Work :=
  judgeNews
    (w.setSc { w.st.sc with sending := true, periodic := intervalTimer w.st.statusInForce.periodic })

/-- The minimum timer expires (R163). -/
def minStatusExpiry (w : Work) : Work :=
  if w.st.sc.pendingNews then
    judgeNews (w.setSc { w.st.sc with minTimer := .stopped, pendingNews := false })
  else w.setSc { w.st.sc with minTimer := .stopped }

/-- The periodic timer expires: the content is offered, and the timer reloaded (R164). The minimum timer may
have run out at this moment too. R164 takes the two in either order; the model takes the expiry of the
minimum timer first, and with this event, since the offer starts that timer again (DESIGN CHOICE, log 51). -/
def periodicExpiry (w : Work) : Work :=
  let w1 := offerStatus false (if w.st.sc.minTimer.due then minStatusExpiry w else w)
  w1.setSc { w1.st.sc with periodic := intervalTimer w1.st.statusInForce.periodic }

/-- A change of the periodic interval in force from `before` restarts the periodic timer; in START it is
recorded alone (R166). -/
def followPeriodic (before : Nat) (w : Work) : Work :=
  let now := w.st.statusInForce.periodic
  if now = before ∨ !w.st.sc.sending then w
  else w.setSc { w.st.sc with periodic := intervalTimer now }

/-- Every source becomes LIVE, and the content is composed (R160, R161). -/
def sourcesLive (w : Work) : Work :=
  judgeNews (w.setSc { w.st.sc with overridden := Bank.fill 12 false })

/-- The origin of a rear match state: 2, 3, 4. -/
def rearOrigin (i : Fin 3) : Nat := i.val + 2

/-- F6: the highest origin whose state is set, or 0 (R168). -/
def rearAlert (rear : Bank Bool 3) : Nat :=
  (indices 3).foldl (fun acc i => if rear.read i then rearOrigin i else acc) 0

/-- The flag word matches mask and polarity (R168). -/
def rearMatches (mask polarity word : Half) : Bool := (mask &&& ~~~(word ^^^ polarity)) != 0

/-- The rear match states change: the condition follows, and F6 is recomposed at once, before any hand-off
of the event is carried out (R168, R169; DESIGN CHOICE, log 45). -/
def setRear (rear : Bank Bool 3) (w : Work) : Work :=
  if rear = w.st.sc.rear then w
  else
    liveHanded 5 (rearAlert rear)
      (setPresent .rearMatch (rear.any id) (w.setSc { w.st.sc with rear := rear }))

/-- The origin of a STATUS that SC judges (R168). -/
def rearIndex (ownPos : Option Nat) (origin : BitVec 3) : Option (Fin 3) :=
  match ownPos with
  | none => none
  | some p =>
    if h : p < origin.toNat ∧ 2 ≤ origin.toNat ∧ origin.toNat ≤ 4 then some ⟨origin.toNat - 2, by omega⟩
    else none

/-- SC takes a STATUS from behind (R168). The rule does not order the recomposition of F6 and the raising of
REAR_MATCH: the model recomposes first, so a STATUS that this offers is older than the NOTICE (DESIGN
CHOICE, log 44). -/
def takeRear (f : Frame) (w : Work) : Work :=
  match rearIndex w.st.lr.ownPos f.hdr.origin, readFlagWord f.data with
  | some i, some word =>
    let t := w.st.statusInForce
    let hit := rearMatches t.mask t.polarity word
    let old := w.st.sc.rear.read i
    let w1 := setRear (w.st.sc.rear.write i hit) w
    if hit && !old then raise .rearMatch (BitVec.ofNat 16 (rearOrigin i)) w1 else w1
  | _, _ => w

/-- Every rear match state is cleared (R8, R169). -/
def clearRear (w : Work) : Work := setRear (Bank.fill 3 false) w

end Sys2Proof.Machine
end

