-- ==== Sys2Proof/Machine/Items.lean ====
section
/-! DEFINITION. The item map and the judgments of READ ITEM, WRITE ITEM and SWAP ITEM (R177 to R180). -/

namespace Sys2Proof.Machine

/-- What a read of an item comes to (R178). -/
inductive ItemRead where
  /-- the item number is not defined -/
  | undefined
  /-- the index is outside the item's range -/
  | badIndex
  /-- the item's value; none while the quantity is absent -/
  | value (v : Option Int)
  deriving DecidableEq, Repr

/-- An item without a family takes index 0 (R177). -/
def itemOne (index : Nat) (v : Option Int) : ItemRead := if index = 0 then .value v else .badIndex

/-- An item of a family with members 1 to `n` (R177). -/
def itemOf (n : Nat) (index : Nat) (f : Fin n → Option Int) : ItemRead :=
  match indexOf n index with
  | some i => .value (f i)
  | none => .badIndex

/-- A present number. -/
def present (n : Nat) : Option Int := some (n : Int)

/-- A present flag (R200). -/
def presentBit (b : Bool) : Option Int := some (bit b : Int)

/-- An optional number. -/
def optional (n : Option Nat) : Option Int := n.map Int.ofNat

/-- The bits of a bank of flags, cell 0 in bit 0. -/
def maskOf {n : Nat} (b : Bank Bool n) : Nat :=
  (indices n).foldl (fun acc i => acc + bit (b.read i) * 2 ^ i.val) 0

/-- Items 0x000 to 0x008. An unknown own position is read as a quantity that is absent (R178; DEDUCED,
log 47). -/
def partItem (s : State) (k index : Nat) : ItemRead :=
  match k with
  | 0 => itemOne index (present Config.partIdentity)
  | 1 => itemOne index (present s.time.toNat)
  | 2 => itemOne index (present s.me.op.code)
  | 3 => itemOne index (optional s.lr.ownPos)
  | 4 => itemOne index (present s.ts.generation.toNat)
  | 5 => itemOne index (present (maskOf s.ts.validity))
  | 6 => itemOne index (present s.ts.check.code)
  | 7 => itemOne index (present (match s.me.slot with | none => 0 | some op => op.kind.code))
  | 8 => itemOf 3 (index + 1) fun i => presentBit (s.lr.ports.read i).on
  | _ => .undefined

/-- The input of an item index: SUPPLY 1, PARK 2 (R177). -/
def pinOf (i : Fin 2) : Pin := if i.val = 0 then .supply else .park

/-- Items 0x010 to 0x017. -/
def intakeItem (s : State) (k index : Nat) : ItemRead :=
  match k with
  | 0 => itemOf 18 index fun i => present (s.si.records.read i).state.code
  | 1 => itemOf 18 index fun i => (s.si.records.read i).last
  | 2 => itemOf 18 index fun i => present (s.si.records.read i).run
  | 3 => itemOne index (present s.si.vref)
  | 4 => itemOne index (present s.si.vrefQuality.code)
  | 5 => itemOne index (present s.si.motion.code)
  | 6 => itemOf 2 index fun i => presentBit (s.active (pinOf i))
  | 7 => itemOf 2 index fun i => optional ((s.input (pinOf i)).accepted.map levelCode)
  | _ => .undefined

/-- Items 0x020 to 0x02A, in the order of R60. -/
def demandItem (s : State) (k index : Nat) : ItemRead :=
  match k with
  | 0 => itemOne index (present s.du.link.code)
  | 1 => itemOne index (optional (s.du.lastCounter.map (·.toNat)))
  | 2 => itemOne index (optional s.du.lastDemand)
  | 3 => itemOne index (optional s.du.lastSpeed)
  | 4 => itemOne index (presentBit s.du.chainFlag)
  | 5 => itemOne index (presentBit s.du.parkFlag)
  | 6 => itemOne index (present s.du.inEffect)
  | 7 => itemOne index (present s.du.recovery)
  | 8 => itemOne index (presentBit s.du.emergency)
  | 9 => itemOne index (present s.du.cause.code)
  | 10 => itemOne index (present s.du.mode.code)
  | _ => .undefined

/-- Items 0x030 to 0x037, in the order of R77. -/
def loadItem (s : State) (k index : Nat) : ItemRead :=
  match k with
  | 0 => itemOf 3 index fun g => optional (s.lu.read g).bellows
  | 1 => itemOf 3 index fun g => present (s.lu.read g).quality.code
  | 2 => itemOf 3 index fun g => present (s.lu.read g).cause.code
  | 3 => itemOf 3 index fun g => optional (s.lu.read g).load
  | 4 => itemOf 3 index fun g => optional (s.lu.read g).fraction
  | 5 => itemOf 3 index fun g => present (s.lu.read g).ratio
  | 6 => itemOf 3 index fun g => presentBit (s.lu.read g).overload
  | 7 => itemOf 3 index fun g => present (s.lu.read g).service
  | _ => .undefined

/-- A channel, wheel or position as its number. -/
def numberOf {n : Nat} (i : Option (Fin n)) : Option Int := optional (i.map fun x => x.val + 1)

/-- Items 0x040 to 0x047, in the order of R98. -/
def brakeItem (s : State) (k index : Nat) : ItemRead :=
  match k with
  | 0 => itemOf 6 index fun c => present (s.channel c).target
  | 1 => itemOf 6 index fun c => optional (s.channel c).lastCommanded
  | 2 => itemOf 6 index fun c => optional (s.channel c).feedback
  | 3 => itemOf 6 index fun c => presentBit (s.channel c).fault
  | 4 => itemOf 6 index fun c => present (s.channel c).result.code
  | 5 => itemOne index (present s.bt.check.overall.code)
  | 6 => itemOne index (numberOf s.bt.check.under)
  | 7 => itemOne index (optional (s.bt.check.step.map PathStep.code))
  | _ => .undefined

/-- Items 0x050 to 0x059, in the order of R114. -/
def tyreItem (s : State) (k index : Nat) : ItemRead :=
  match k with
  | 0 => itemOf 24 index fun p => present (s.wheel p).state.code
  | 1 => itemOf 24 index fun p => presentBit (s.wheel p).leak
  | 2 => itemOf 24 index fun p => presentBit (s.wheel p).lowBattery
  | 3 => itemOf 24 index fun p => optional (s.wheel p).pressure
  | 4 => itemOf 24 index fun p => (s.wheel p).temperature
  | 5 => itemOf 24 index fun p => optional ((s.wheel p).time.map (·.toNat))
  | 6 => itemOf 24 index fun p => present ((s.wheel p).missing.getD 0)
  | 7 => itemOf 3 index fun g => presentBit (s.tu.deflated.read g)
  | 8 => itemOf 3 index fun g => presentBit (s.tu.low.read g)
  | 9 => itemOne index (present s.tu.worst.code)
  | _ => .undefined

/-- Items 0x070 to 0x078, in the order of R122. -/
def learnItem (s : State) (k index : Nat) : ItemRead :=
  let l := s.tu.learn
  let entry (f : Candidate → Nat) : ItemRead :=
    itemOf 8 index fun i => optional ((l.candidates[i.val]?).map f)
  match k with
  | 0 => itemOne index (present l.state.code)
  | 1 => itemOne index (numberOf l.position)
  | 2 => itemOne index (present l.outcome.code)
  | 3 => itemOne index (present l.timeout.left)
  | 4 => itemOne index (present l.candidates.length)
  | 5 => entry fun e => e.sensorId.toNat
  | 6 => entry fun e => e.count
  | 7 => entry fun e => bit e.rapidSeen
  | 8 => entry fun e => e.firstSeen.toNat
  | _ => .undefined

/-- Items 0x080 to 0x08D, in the order of R144. -/
def stabItem (s : State) (k index : Nat) : ItemRead :=
  match k with
  | 0 => itemOne index (present s.su.state.code)
  | 1 => itemOne index (present s.su.fraction)
  | 2 => itemOne index s.su.critical
  | 3 => itemOne index (present s.su.derate)
  | 4 => itemOne index s.su.threshold
  | 5 => itemOne index s.su.margin
  | 6 => itemOne index (numberOf s.su.testChannel)
  | 7 => itemOne index (present s.su.level)
  | 8 => itemOf 6 index fun c => present (s.su.demand.read c)
  | 9 => itemOne index (present s.su.pulseTimer.left)
  | 10 => itemOne index (present s.su.testTimer.left)
  | 11 => itemOne index (present s.su.minTimer.left)
  | 12 => itemOne index (present s.su.releaseTimer.left)
  | 13 => itemOne index (presentBit s.su.unavailable)
  | _ => .undefined

/-- Items 0x090 to 0x095, in the order of R170. -/
def statusItem (s : State) (k index : Nat) : ItemRead :=
  match k with
  | 0 => itemOf 12 index fun f => present (s.fieldContent f)
  | 1 => itemOf 12 index fun f => present (s.sc.lastSent.read f)
  | 2 => itemOne index (presentBit s.sc.pendingNews)
  | 3 => itemOne index (present s.sc.minTimer.left)
  | 4 => itemOne index (present s.sc.periodic.left)
  | 5 => if index = 0 then .badIndex else itemOf 3 (index - 1) fun i => presentBit (s.sc.rear.read i)
  | _ => .undefined

/-- The stability parameter of an item 0x110 + k (R123, R177). -/
def stabParamValue (t : StabTable) (k : Nat) : Option Nat :=
  match k with
  | 0 => some (bit t.enable) | 1 => some t.vGate | 2 => some t.mWatch | 3 => some t.mTest
  | 4 => some t.mInt | 5 => some t.hysteresis | 6 => some t.pTest | 7 => some t.tPulse
  | 8 => some t.tRep | 9 => some t.liftSlip | 10 => some t.pIntStart | 11 => some t.rampUp
  | 12 => some t.pIntMax | 13 => some t.rampDown | 14 => some t.tMinInt | 15 => some t.dLow
  | 16 => some t.dDefl | 17 => some (orderCode t.order) | _ => none

/-- The tyre setting of an item 0x130 + k (R101, R177). -/
def tyreSettingValue (t : WheelsTable) (k : Nat) : Option Nat :=
  match k with
  | 0 => some t.qLow | 1 => some t.qDefl | 2 => some t.qHigh | 3 => some t.leak | 4 => some t.missing
  | _ => none

/-- A number that may name no item. -/
def itemWhen (index : Nat) : Option Nat → ItemRead
  | some n => itemOne index (present n)
  | none => .undefined

/-- Items 0x100 to 0x153: the stored content (R178). -/
def storedItem (s : State) (item index : Nat) : ItemRead :=
  let t := s.tables
  if item < 0x110 then
    match item - 0x100 with
    | 0 => itemOne index (present t.groups.fallbackRatio)
    | 1 => itemOne index (present t.groups.ceiling)
    | _ => .undefined
  else if item < 0x130 then itemWhen index (stabParamValue t.stability (item - 0x110))
  else if item < 0x140 then itemWhen index (tyreSettingValue t.wheels (item - 0x130))
  else if item < 0x150 then
    match item - 0x140 with
    | 0 => itemOne index (present t.filters.supply.filter.code)
    | 1 => itemOne index (present t.filters.supply.polarity.code)
    | 2 => itemOne index (present t.filters.park.filter.code)
    | 3 => itemOne index (present t.filters.park.polarity.code)
    | _ => .undefined
  else
    match item - 0x150 with
    | 0 => itemOne index (present t.status.minInterval)
    | 1 => itemOne index (present t.status.periodic)
    | 2 => itemOne index (present t.status.mask.toNat)
    | 3 => itemOne index (present t.status.polarity.toNat)
    | _ => .undefined

/-- The trigger mask as its code (R200). -/
def triggerMask (nu : NoticeUnit) : Nat :=
  bit nu.maskIntervention + 2 * bit nu.maskEmergency + 4 * bit nu.maskDemandLost

/-- Occupied slots whose used flag is set (R14). -/
def usedCount (t : Bank RouteSlot 64) : Nat := (t.cells.filter fun r => r.valid && r.used).length

/-- Items 0x200 to 0x220: the enables in force, the snapshot settings, the used-flag count (R178). -/
def runtimeItem (s : State) (k index : Nat) : ItemRead :=
  match k with
  | 0x00 => itemOf 24 index fun i => presentBit (s.nu.records.read i).message
  | 0x01 => itemOf 24 index fun i => presentBit (s.nu.records.read i).lamp
  | 0x10 => itemOne index (present s.nu.mode.code)
  | 0x11 => itemOne index (present (triggerMask s.nu))
  | 0x20 => itemOne index (present (usedCount s.lr.routes))
  | _ => .undefined

/-- The item map of R177. -/
def readItemAt (s : State) (item index : Nat) : ItemRead :=
  if item < 0x010 then partItem s item index
  else if item < 0x020 then intakeItem s (item - 0x010) index
  else if item < 0x030 then demandItem s (item - 0x020) index
  else if item < 0x040 then loadItem s (item - 0x030) index
  else if item < 0x050 then brakeItem s (item - 0x040) index
  else if item < 0x070 then tyreItem s (item - 0x050) index
  else if item < 0x080 then learnItem s (item - 0x070) index
  else if item < 0x090 then stabItem s (item - 0x080) index
  else if item < 0x100 then statusItem s (item - 0x090) index
  else if item < 0x200 then storedItem s item index
  else runtimeItem s (item - 0x200) index

/-- An item value as its 32 bits (R177); absent reads as 0 (R178). -/
def itemWord (v : Option Int) : Word := BitVec.ofInt 32 (v.getD 0)

/-- The result of READ ITEM: presence byte and value (R178, R195). -/
def itemBytes (v : Option Int) : List Byte := byteOf (bit v.isSome) :: wordBytes (itemWord v)

/-- A stability parameter written; none when the value is not listed or out of range (R123, R200). -/
def writeStabParam (t : StabTable) (k v : Nat) : Option StabTable :=
  let when (p : StabParam) (u : StabTable) : Option StabTable := if stabRange p v then some u else none
  match k with
  | 0 => when .enable { t with enable := v == 1 }
  | 1 => when .vGate { t with vGate := v }
  | 2 => when .mWatch { t with mWatch := v }
  | 3 => when .mTest { t with mTest := v }
  | 4 => when .mInt { t with mInt := v }
  | 5 => when .hysteresis { t with hysteresis := v }
  | 6 => when .pTest { t with pTest := v }
  | 7 => when .tPulse { t with tPulse := v }
  | 8 => when .tRep { t with tRep := v }
  | 9 => when .liftSlip { t with liftSlip := v }
  | 10 => when .pIntStart { t with pIntStart := v }
  | 11 => when .rampUp { t with rampUp := v }
  | 12 => when .pIntMax { t with pIntMax := v }
  | 13 => when .rampDown { t with rampDown := v }
  | 14 => when .tMinInt { t with tMinInt := v }
  | 15 => when .dLow { t with dLow := v }
  | 16 => when .dDefl { t with dDefl := v }
  | 17 => (orderOfCode v).map fun o => { t with order := o }
  | _ => none

/-- A tyre setting written; none when out of range or against the relation held (R101). -/
def writeTyreSetting (t : WheelsTable) (k v : Nat) : Option WheelsTable :=
  let u : WheelsTable :=
    match k with
    | 0 => { t with qLow := v }
    | 1 => { t with qDefl := v }
    | 2 => { t with qHigh := v }
    | 3 => { t with leak := v }
    | _ => { t with missing := v }
  let ok :=
    match k with
    | 0 => within 500 980 v && decide (t.qDefl < v)
    | 1 => within 300 900 v && decide (v < t.qLow)
    | 2 => within 1050 1500 v
    | 3 => within 5 200 v
    | 4 => within 60 3600 v && v % 10 == 0
    | _ => false
  if ok then some u else none

/-- A FILTERS item written; none when the code is not listed (R179, R200). -/
def writeFilter (t : FiltersTable) (k v : Nat) : Option FiltersTable :=
  match k with
  | 0 => (FilterSetting.ofCode v).map fun f => { t with supply := { t.supply with filter := f } }
  | 1 => (Polarity.ofCode v).map fun p => { t with supply := { t.supply with polarity := p } }
  | 2 => (FilterSetting.ofCode v).map fun f => { t with park := { t.park with filter := f } }
  | 3 => (Polarity.ofCode v).map fun p => { t with park := { t.park with polarity := p } }
  | _ => none

/-- An interval or rear match setting written; none when out of range (R166, R167). -/
def writeStatusItem (t : StatusTable) (k v : Nat) : Option StatusTable :=
  match k with
  | 0 => if minIntervalOk v then some { t with minInterval := v } else none
  | 1 => if periodicOk v then some { t with periodic := v } else none
  | 2 => if v < 65536 then some { t with mask := BitVec.ofNat 16 v } else none
  | 3 => if v < 65536 then some { t with polarity := BitVec.ofNat 16 v } else none
  | _ => none

/-- An item of the range written in maintenance only is written (R179); none is BAD_PARAM. -/
def writeStored (item v : Nat) (w : Work) : Option Work :=
  let t := w.st.tables
  if item < 0x110 then
    match item - 0x100 with
    | 0 =>
      if fallbackRatioOk v then
        some ((w.setTables { t with groups := { t.groups with fallbackRatio := v } }).emit .luAll)
      else none
    | 1 =>
      if ceilingOk v then
        some ((w.setTables { t with groups := { t.groups with ceiling := v } }).emit .btLimit)
      else none
    | _ => none
  else if item < 0x130 then
    (writeStabParam t.stability (item - 0x110) v).map fun x =>
      (w.setTables { t with stability := x }).emit (.su .params)
  else if item < 0x140 then
    (writeTyreSetting t.wheels (item - 0x130) v).map fun x => w.setTables { t with wheels := x }
  else if item < 0x150 then
    (writeFilter t.filters (item - 0x140) v).map fun x =>
      applyFilterChange .park (w.st.filterOf .park)
        (applyFilterChange .supply (w.st.filterOf .supply) (w.setTables { t with filters := x }))
  else
    (writeStatusItem t.status (item - 0x150) v).map fun x =>
      followPeriodic w.st.statusInForce.periodic (w.setTables { t with status := x })

/-- A notice enable is set in force, and in maintenance with a valid section in the table too (R152). -/
def writeEnable (i : Fin 24) (change : Enables → Enables) (w : Work) : Work :=
  let r := w.st.nu.records.read i
  let w1 := setEnables i (change { message := r.message, lamp := r.lamp }) w
  if w.st.me.op = .maintenance ∧ w.st.valid .notice then
    w1.setTables { w1.st.tables with
      notice := w1.st.tables.notice.write i (change (w1.st.tables.notice.read i)) }
  else w1

/-- The used flag of every slot cleared (R14). -/
def clearUsed (t : Bank RouteSlot 64) : Bank RouteSlot 64 := t.map fun r => { r with used := false }

/-- An item of the range writable at any time is written (R179); none is BAD_PARAM. -/
def writeRuntime (k index v : Nat) (w : Work) : Option Work :=
  let nu := w.st.nu
  match k with
  | 0x00 =>
    match indexOf 24 index with
    | some i => if v < 2 then some (writeEnable i (fun e => { e with message := v == 1 }) w) else none
    | none => none
  | 0x01 =>
    match indexOf 24 index with
    | some i => if v < 2 then some (writeEnable i (fun e => { e with lamp := v == 1 }) w) else none
    | none => none
  | 0x10 =>
    if index = 0 ∧ v < 2 then
      some (w.setNu { nu with mode := if v = 0 then .keepFirst else .keepLatest })
    else none
  | 0x11 =>
    if index = 0 ∧ v < 8 then
      some (w.setNu { nu with maskIntervention := v.testBit 0, maskEmergency := v.testBit 1,
                              maskDemandLost := v.testBit 2 })
    else none
  | 0x20 =>
    if index = 0 then some (w.setLr { w.st.lr with routes := clearUsed w.st.lr.routes }) else none
  | _ => none

/-- Line 4 of R179 and the write; none is BAD_PARAM. -/
def writeItemAt (item index v : Nat) (w : Work) : Option Work :=
  if item < 0x200 then (if index = 0 then writeStored item v w else none)
  else writeRuntime (item - 0x200) index v w

/-- What the lines of R179 come to. -/
inductive WriteJudgment where
  | refused (st : ReplyStatus)
  | written (w : Work)
  deriving DecidableEq, Repr

/-- Lines 1 to 5 of R179. -/
def judgeWrite (item index v : Nat) (w : Work) : WriteJudgment :=
  if readItemAt w.st item index = .undefined then .refused .absent
  else if item < 0x100 then .refused .readOnly
  else if item < 0x200 ∧ w.st.me.op ≠ .maintenance then .refused .notInMaintenance
  else
    match writeItemAt item index v w with
    | some w1 => .written w1
    | none => .refused .badParam

/-- Item number of a GROUPS parameter (R177). -/
def groupsItem : GroupsParam → Half
  | .fallbackRatio => 0x100 | .ceiling => 0x101

/-- Item number of a stability parameter (R123, R177). -/
def stabParamItem : StabParam → Half
  | .enable => 0x110 | .vGate => 0x111 | .mWatch => 0x112 | .mTest => 0x113 | .mInt => 0x114
  | .hysteresis => 0x115 | .pTest => 0x116 | .tPulse => 0x117 | .tRep => 0x118 | .liftSlip => 0x119
  | .pIntStart => 0x11A | .rampUp => 0x11B | .pIntMax => 0x11C | .rampDown => 0x11D | .tMinInt => 0x11E
  | .dLow => 0x11F | .dDefl => 0x120 | .order => 0x121

/-- Item number of a tyre setting (R101, R177). -/
def tyreSettingItem : TyreSetting → Half
  | .qLow => 0x130 | .qDefl => 0x131 | .qHigh => 0x132 | .leak => 0x133 | .missing => 0x134

/-- Item number of a FILTERS item (R177). -/
def filterItemNumber : FilterItem → Half
  | .supplyFilter => 0x140 | .supplyPolarity => 0x141 | .parkFilter => 0x142 | .parkPolarity => 0x143

/-- Item number of a STATUS interval (R177). -/
def intervalItemNumber : IntervalItem → Half
  | .minimum => 0x150 | .periodic => 0x151

/-- Item number of a rear match setting (R177). -/
def rearItemNumber : RearItem → Half
  | .mask => 0x152 | .polarity => 0x153

/-- Item number of a notice enable (R177). -/
def enableItemNumber : EnableItem → Half
  | .message => 0x200 | .lamp => 0x201

/-- Item number of a snapshot setting (R177). -/
def snapItemNumber : SnapItem → Half
  | .mode => 0x210 | .mask => 0x211

end Sys2Proof.Machine
end

