-- ==== Sys2Proof/Machine/Entries.lean ====
section
/-! DEFINITION. READ ENTRY, WRITE ENTRY and ERASE ENTRY on the seven tables (R181 and the tables' own
rules). -/

namespace Sys2Proof.Machine

/-- An answer: the status and the result bytes of a reply, with the work done. -/
structure Answer where
  status : ReplyStatus
  results : List Byte
  work : Work
  deriving DecidableEq, Repr

/-- An answer without results. -/
def answer (st : ReplyStatus) (w : Work) : Answer := { status := st, results := [], work := w }

/-- DONE with results, nothing changed. -/
def answerRead (results : List Byte) (w : Work) : Answer := { status := .done, results := results, work := w }

/-- The fields of a slot that READ ENTRY returns (R14, log 12). -/
def routeBytes (r : RouteSlot) : List Byte :=
  let e := if r.valid then r.entry else RouteSlot.free.entry
  [flagByte r.valid, flagByte r.cont, byteOf (portCode e.key.port), byteOf e.key.kind.toNat,
   byteOf e.key.relation.code, byteOf e.consumer.code, byteOf (bit e.toFL + 2 * bit e.toRL),
   flagByte (r.valid && r.used)]

/-- The entry of a STATUS field with its live value (R160). -/
def fieldBytes (s : State) (f : Fin 12) : List Byte :=
  let r := s.tables.status.fields.read f
  [flagByte (s.sc.overridden.read f)] ++ natHalf r.value ++ [flagByte r.change]
    ++ natHalf (s.sc.live.read f)

/-- A read by index: BAD_PARAM outside the range. -/
def readIndexed (n : Nat) (i : Byte) (f : Fin n → List Byte) (w : Work) : Answer :=
  match indexOf n i.toNat with
  | some k => answerRead (f k) w
  | none => answer .badParam w

/-- A slot number 0..63 (R14). -/
def slotOf (i : Byte) : Option (Fin 64) := if h : i.toNat < 64 then some ⟨i.toNat, h⟩ else none

/-- READ ENTRY (R181). -/
def readEntryAt (table i : Byte) (w : Work) : Answer :=
  let s := w.st
  match table.toNat with
  | 1 =>
    match slotOf i with
    | some k => answerRead (routeBytes (s.lr.routes.read k)) w
    | none => answer .badParam w
  | 2 => readIndexed 3 i (fun g => groupBytes (s.tables.groups.records.read g)) w
  | 3 => readIndexed 3 i (fun g => pointBytes (s.tables.groups.curves.read g)) w
  | 4 => readIndexed 24 i (fun p => wheelBytes (s.wheelRec p)) w
  | 5 => readIndexed 1 i (fun _ => pointBytes s.tables.stability.critical) w
  | 6 => readIndexed 12 i (fieldBytes s) w
  | 7 =>
    readIndexed 24 i
      (fun k => [flagByte (s.tables.notice.read k).message, flagByte (s.tables.notice.read k).lamp]) w
  | _ => answer .badParam w

/-- A write or erase is taken in maintenance only (R181). -/
def inMaintenance (w : Work) (a : Answer) : Answer :=
  if w.st.me.op = .maintenance then a else answer .notInMaintenance w

/-- WRITE ENTRY on ROUTE (R13). -/
def writeRouteEntry (f : RouteFields) (w : Work) : Answer :=
  match readRouteFields f with
  | none => answer .badParam w
  | some e =>
    match insertRoute w.st.lr.routes e with
    | none => answer .tableFull w
    | some (t, i) => answerRead [byteOf i.val] (w.setLr { w.st.lr with routes := t })

/-- ERASE ENTRY on ROUTE (R14): valid cleared, continue bit kept. -/
def eraseRouteEntry (i : Byte) (w : Work) : Answer :=
  match slotOf i with
  | none => answer .badParam w
  | some k =>
    let r := w.st.lr.routes.read k
    if r.valid then
      answer .done
        (w.setLr { w.st.lr with routes := w.st.lr.routes.write k { RouteSlot.free with cont := r.cont } })
    else answer .absent w

/-- The hand-offs of a change of a group's stored fields (R64, R66, R80). -/
def groupWritten (g : Fin 3) (w : Work) : Work := w.emitAll [.btConfigured, .luGroup g, .btCap g]

/-- A group's stored record replaced. -/
def setGroupRec (g : Fin 3) (r : GroupRec) (w : Work) : Work :=
  groupWritten g
    (w.setTables { w.st.tables with
      groups := { w.st.tables.groups with records := w.st.tables.groups.records.write g r } })

/-- WRITE ENTRY on GROUP (R62). -/
def writeGroupEntry (i : Byte) (f : GroupFields) (w : Work) : Answer :=
  match indexOf 3 i.toNat, readGroupFields f with
  | some g, some r => answer .done (setGroupRec g r w)
  | _, _ => answer .badParam w

/-- ERASE ENTRY on GROUP (R62). -/
def eraseGroupEntry (i : Byte) (w : Work) : Answer :=
  match indexOf 3 i.toNat with
  | some g =>
    answer .done (setGroupRec g { w.st.tables.groups.records.read g with configured := false } w)
  | none => answer .badParam w

/-- A group's stored curve replaced. -/
def setCurve (g : Fin 3) (ps : List (Nat × Nat)) (w : Work) : Work :=
  (w.setTables { w.st.tables with
    groups := { w.st.tables.groups with curves := w.st.tables.groups.curves.write g ps } }).emit (.luGroup g)

/-- WRITE ENTRY on CURVE (R63). -/
def writeCurveEntry (i : Byte) (ps : List (Half × Half)) (w : Work) : Answer :=
  match indexOf 3 i.toNat, curveOk (natPoints ps) with
  | some g, true => answer .done (setCurve g (natPoints ps) w)
  | _, _ => answer .badParam w

/-- ERASE ENTRY on CURVE (R63). -/
def eraseCurveEntry (i : Byte) (w : Work) : Answer :=
  match indexOf 3 i.toNat with
  | some g => answer .done (setCurve g [] w)
  | none => answer .badParam w

/-- A wheel's stored record replaced. -/
def Work.setWheelRec (p : Fin 24) (r : WheelRec) (w : Work) : Work :=
  w.setTables { w.st.tables with
    wheels := { w.st.tables.wheels with records := w.st.tables.wheels.records.write p r } }

/-- A sensor ID stands in another wheel record (R99). -/
def State.idTaken (s : State) (p : Fin 24) (id : Option Word) : Bool :=
  id.isSome && wheelsList.any fun q => q != p && (s.wheelRec q).sensorId == id

/-- A candidate whose ID is written into a record is removed (R99, R121). -/
def dropCandidate (id : Option Word) (w : Work) : Work :=
  w.setLearn { w.st.tu.learn with
    candidates := w.st.tu.learn.candidates.filter fun e => some e.sensorId != id }

/-- A learn for a position that is no longer configured in force is cancelled (R120). -/
def cancelLearnOf (p : Fin 24) (w : Work) : Work :=
  if w.st.tu.learn.position = some p ∧ !w.st.wheelConfigured p then cancelLearn w else w

/-- WRITE ENTRY on WHEEL (R99, R100, R120, R121). -/
def writeWheelEntry (i : Byte) (f : WheelFields) (w : Work) : Answer :=
  match indexOf 24 i.toNat, readWheelFields f with
  | some p, some r =>
    if w.st.idTaken p r.sensorId then answer .conflict w
    else
      let changed := decide (r ≠ w.st.wheelRec p)
      let w1 := cancelLearnOf p (dropCandidate r.sensorId (w.setWheelRec p r))
      answer .done (if changed then restartWheel p w1 else w1)
  | _, _ => answer .badParam w

/-- ERASE ENTRY on WHEEL (R99, R100, R120). -/
def eraseWheelEntry (i : Byte) (w : Work) : Answer :=
  match indexOf 24 i.toNat with
  | some p =>
    answer .done
      (restartWheel p
        (cancelLearnOf p
          (w.setWheelRec p { w.st.wheelRec p with configured := false, sensorId := none })))
  | none => answer .badParam w

/-- The stored critical table replaced, and SU told (R124, R131). -/
def setCritical (ps : List (Nat × Nat)) (w : Work) : Work :=
  (w.setTables { w.st.tables with
    stability := { w.st.tables.stability with critical := ps } }).emit (.su .params)

/-- WRITE ENTRY on CRITICAL (R124). -/
def writeCriticalEntry (i : Byte) (ps : List (Half × Half)) (w : Work) : Answer :=
  if i = 1 ∧ criticalOk (natPoints ps) then answer .done (setCritical (natPoints ps) w)
  else answer .badParam w

/-- ERASE ENTRY on CRITICAL (R124). -/
def eraseCriticalEntry (i : Byte) (w : Work) : Answer :=
  if i = 1 then answer .done (setCritical [] w) else answer .badParam w

/-- A STATUS FIELD entry replaced; SC composes (R160, R161). -/
def setField (f : Fin 12) (ovr : Bool) (r : FieldRec) (w : Work) : Work :=
  let w1 := w.setTables { w.st.tables with
    status := { w.st.tables.status with fields := w.st.tables.status.fields.write f r } }
  (w1.setSc { w1.st.sc with overridden := w1.st.sc.overridden.write f ovr }).emit .scCompose

/-- WRITE ENTRY on STATUS FIELD (R160). -/
def writeFieldEntry (i : Byte) (f : StatusFieldFields) (w : Work) : Answer :=
  match indexOf 12 i.toNat, flagOf f.source, flagOf f.change with
  | some k, some ovr, some change =>
    if overrideOk k f.value.toNat then
      answer .done (setField k ovr { value := f.value.toNat, change := change } w)
    else answer .badParam w
  | _, _, _ => answer .badParam w

/-- ERASE ENTRY on STATUS FIELD (R160). -/
def eraseFieldEntry (i : Byte) (w : Work) : Answer :=
  match indexOf 12 i.toNat with
  | some k => answer .done (setField k false .defaults w)
  | none => answer .badParam w

/-- The stored enables of a kind set; in force too while the section is valid (R152). -/
def setStoredEnables (k : Fin 24) (e : Enables) (w : Work) : Work :=
  let w1 := w.setTables { w.st.tables with notice := w.st.tables.notice.write k e }
  if w1.st.valid .notice then setEnables k e w1 else w1

/-- WRITE ENTRY on NOTICE (R152). -/
def writeNoticeEntry (i : Byte) (f : NoticeFields) (w : Work) : Answer :=
  match indexOf 24 i.toNat, flagOf f.message, flagOf f.lamp with
  | some k, some m, some l => answer .done (setStoredEnables k { message := m, lamp := l } w)
  | _, _, _ => answer .badParam w

/-- ERASE ENTRY on NOTICE (R152). -/
def eraseNoticeEntry (i : Byte) (w : Work) : Answer :=
  match indexOf 24 i.toNat with
  | some k => answer .done (setStoredEnables k (noticeDefaults.read k) w)
  | none => answer .badParam w

/-- ERASE ENTRY (R181); a table number that names no table is BAD_PARAM in every state (log 11). -/
def eraseEntryAt (table i : Byte) (w : Work) : Answer :=
  match table.toNat with
  | 1 => inMaintenance w (eraseRouteEntry i w)
  | 2 => inMaintenance w (eraseGroupEntry i w)
  | 3 => inMaintenance w (eraseCurveEntry i w)
  | 4 => inMaintenance w (eraseWheelEntry i w)
  | 5 => inMaintenance w (eraseCriticalEntry i w)
  | 6 => inMaintenance w (eraseFieldEntry i w)
  | 7 => inMaintenance w (eraseNoticeEntry i w)
  | _ => answer .badParam w

end Sys2Proof.Machine
end

