-- ==== Sys2Proof/Machine/Store.lean ====
section
/-! DEFINITION. TS and the starts of the part: section validity, the table check, storing the image,
power-on and RESTART (12_stored_tables_and_start_up.md, R188). -/

namespace Sys2Proof.Machine

/-- The invalid sections as a mask (R192). -/
def State.invalidMask (s : State) : Nat := 127 - maskOf s.ts.validity

/-- The table check result is judged (R192). -/
def judgeTableCheck (w : Work) : Work :=
  let new : TableCheck := if w.st.ts.validity.all id then .passed else .failed
  if new = w.st.ts.check then w
  else
    let w1 := setPresent .tableCheckFailed (new == .failed) (w.setTs { w.st.ts with check := new })
    let w2 := w1.emit (.scLive 9 w1.st.checksField)
    if new = .failed then raise .tableCheckFailed (BitVec.ofNat 16 w2.st.invalidMask) w2 else w2

/-- The hand-offs of a change of one section's validity, given what was in force before (R191). FILTERS may
change both inputs at one event, and R42 gives the two no order: the model applies SUPPLY first, so DU judges
the emergency before ME forces an exit (DESIGN CHOICE, log 54). -/
def sectionChanged (before : State) (x : Sect) (w : Work) : Work :=
  match x with
  | .route => w
  | .groups => w.emitAll [.btConfigured, .luAll, .btLimit, .btCap 0, .btCap 1, .btCap 2]
  | .stability => w.emit (.su .params)
  | .wheels => restartWheels wheelsList w
  | .status => (followPeriodic before.statusInForce.periodic w).emit .scCompose
  | .notice => reloadEnables w
  | .filters =>
    applyFilterChange .park (before.filterOf .park)
      (applyFilterChange .supply (before.filterOf .supply) w)

/-- The hand-offs of the sections whose validity differs from before, in image order (DESIGN CHOICE,
log 49). -/
def handSections (before : State) : List Sect → Work → Work
  | [], w => w
  | x :: rest, w =>
    handSections before rest
      (if w.st.valid x = before.valid x then w else sectionChanged before x w)

/-- The section validity changes: the units are told, and the table check is judged (R191, R192). -/
def changeValidity (new : Bank Bool 7) (w : Work) : Work :=
  judgeTableCheck (handSections w.st Sect.list (w.setTs { w.st.ts with validity := new }))

/-- Every section valid. -/
def allValid : Bank Bool 7 := Bank.fill 7 true

/-- TS is ordered to write the image (R193). -/
def beginStore (w : Work) : Work :=
  w.setTs { w.st.ts with writing := some 0, limit := .running Config.storeLimit }

/-- The content of a section of an image replaced by the working content (R189). -/
def putSection (s : State) (im : Image) : Sect → Image
  | .route => { im with routes := storedRoutes s.lr.routes }
  | .groups => { im with tables := { im.tables with groups := s.tables.groups } }
  | .stability => { im with tables := { im.tables with stability := s.tables.stability } }
  | .wheels => { im with tables := { im.tables with wheels := s.tables.wheels } }
  | .status => { im with tables := { im.tables with status := s.tables.status } }
  | .notice => { im with tables := { im.tables with notice := s.tables.notice } }
  | .filters => { im with tables := { im.tables with filters := s.tables.filters } }

/-- A section of an image written: the working content, and a CRC-16 computed over it (R193). -/
def writeSection (s : State) (im : Image) (x : Sect) : Image := (putSection s im x).withCrc x

/-- The part in progress left with a wrong CRC (R194). -/
def StoreUnit.spoiled (ts : StoreUnit) : Image :=
  match ts.writing with
  | none => ts.image
  | some i => ts.image.spoil i

/-- The header has been written: the store has succeeded (R193). -/
def storeSucceeded (w : Work) : Work :=
  let gen := w.st.ts.generation + 1
  let w1 := w.setTs
    { w.st.ts with
      generation := gen, writing := none, limit := .stopped
      image := w.st.ts.image.withHeader gen }
  answerSlot .done (wordBytes gen) (changeValidity allValid w1)

/-- A section or the header has been written whole (R193). -/
def writeCompleted (i : Fin 8) (w : Work) : Work :=
  if h : i.val < 7 then
    w.setTs { w.st.ts with
      image := writeSection w.st w.st.ts.image (Sect.ofIndex ⟨i.val, h⟩), writing := some ⟨i.val + 1, by omega⟩ }
  else storeSucceeded w

/-- The store fails (R194); the cause is TIME_LIMIT 0 or WRITE_FAILURE 1 (R200). -/
def storeFailed (cause : Half) (w : Work) : Work :=
  let w1 := w.setTs
    { w.st.ts with image := w.st.ts.spoiled, writing := none, limit := .stopped }
  answerSlot .failed [] (raise .storeFailed cause w1)

/-- The notice unit after a RESTART (R146, R153, R155): records, snapshots and settings kept, conditions
ended, enables at the section defaults until the load (R152), LAMP as the kept flags give it. -/
def NoticeUnit.restarted (nu : NoticeUnit) : NoticeUnit :=
  let records : Bank NoticeRec 24 := Bank.ofFn fun i =>
    { nu.records.read i with
      present := false, message := (noticeDefaults.read i).message, lamp := (noticeDefaults.read i).lamp }
  { nu with records := records, lampOut := records.any fun r => r.flag && r.lamp }

/-- The part at the beginning of START (R189, R190): every unit at its values after power-on, every section
at its defaults and invalid, the image still to be loaded. -/
def startState (time : Word) (nu : NoticeUnit) (image : Image) (supplyPin parkPin : Level)
    (pending : List Instr) : State :=
  { time := time, lr := .fresh builtInTable, si := .fresh supplyPin parkPin, du := .fresh,
    lu := Bank.fill 3 (.fresh GroupsTable.defaults.fallbackRatio), bt := .fresh .defaults,
    tu := .fresh .defaults, su := .fresh .defaults, nu := nu, sc := .fresh (bit nu.lampOut) nu.classMask,
    me := .fresh, ts := .fresh image, tables := .defaults, pending := pending, owed := [] }

/-- Power-on, or an assertion of RESET (R190, R194). -/
def powerOn (s : State) : State :=
  startState 0 (.fresh noticeDefaults) s.ts.spoiled s.si.supply.pin s.si.park.pin s.pending

/-- The restart of R188: as power-on, but notices, snapshots and the time count are kept. -/
def restartPart (s : State) : State :=
  startState s.time s.nu.restarted s.ts.spoiled s.si.supply.pin s.si.park.pin s.pending

/-- The load of R190, each unit taking up what it is handed: the Route Table is rebuilt (R15), the working
tables, the validity and the generation are taken from the image, LU reads R_fb in force (R65), BT and SU
the configured fields and rated loads in force (R79, R126), TU restarts every record (R100), SU reads
a_crit from its table (R128), and every field source of SC is LIVE (R160). -/
def loadedState (s : State) : State :=
  let im := s.ts.image
  let t := loadTables im
  let configured : Bank Bool 6 := Bank.ofFn fun c => (t.groups.records.read (groupOf c)).configured
  let loads : Bank LoadCopy 3 := Bank.ofFn fun g =>
    { s.su.inputs.loads.read g with rated := (t.groups.records.read g).rated }
  { s with
    lr := { s.lr with routes := loadRoutes im }
    lu := s.lu.map fun x => { x with ratio := t.groups.fallbackRatio }
    bt := { s.bt with
      channels := Bank.ofFn fun c =>
        { s.bt.channels.read c with configured := configured.read c } }
    tu := { s.tu with wheels := Bank.ofFn fun p => .fresh (t.wheels.records.read p) }
    su := StabUnit.recomputed
      { s.su with inputs := { s.su.inputs with loads := loads, configured := configured } } t.stability
    sc := { s.sc with overridden := Bank.fill 12 false }
    ts := { s.ts with validity := loadValidity im, generation := loadGeneration im }
    tables := t }

/-- TS loads the image, all at the end of START (log 10): besides what `loadedState` says, NU sets the
enables from the section or its defaults, and judges LAMP (R152, R153). -/
def loadImage (w : Work) : Work := reloadEnables { w with st := loadedState w.st }

end Sys2Proof.Machine
end

