-- ==== Sys2Proof/Machine/Manage.lean ====
section
/-! DEFINITION. ME: the operating state, maintenance, the requests, and the assembly of groups
(11_in_band_management.md). -/

namespace Sys2Proof.Machine

/-- The operating state changes: DU is told, and at a change out of maintenance TU and SC too (R171); the
model tells these two first (DESIGN CHOICE, log 49). -/
def setOpState (o : OpState) (w : Work) : Work :=
  let w1 := w.setMe { w.st.me with op := o }
  let w2 := if w.st.me.op = .maintenance ∧ o ≠ .maintenance then sourcesLive (cancelLearn w1) else w1
  deriveMode w2

/-- Lr, knees, R_e, P_th and cap of a configured group pass the cross-check, and it has a curve (R184). -/
def groupCross (r : GroupRec) (curve : List (Nat × Nat)) : Bool :=
  !r.configured
    || (within 2 8 curve.length && 100 ≤ r.rated && r.emptyKnee < r.ladenKnee && r.emptyRatio ≤ 1024
        && r.threshold ≤ 200 && (match r.cap with | none => true | some c => within 100 1000 c))

/-- GROUPS passes its cross-checks (R184). -/
def groupsCross (t : GroupsTable) : Bool :=
  t.records.any (·.configured) && groupsList.all fun g => groupCross (t.records.read g) (t.curves.read g)

/-- STABILITY passes its cross-checks (R184). -/
def stabCross (t : Tables) : Bool :=
  !t.stability.enable
    || (within 2 8 t.stability.critical.length && t.stability.mInt < t.stability.mTest
        && t.stability.mTest < t.stability.mWatch
        && t.stability.order.all fun g => (t.groups.records.read g).configured)

/-- WHEELS passes its cross-check (R184). -/
def wheelsCross (t : Tables) : Bool :=
  t.wheels.records.all fun r => !r.configured || (t.groups.records.read r.group).configured

/-- ROUTE passes its cross-check (R184). -/
def routeCross (t : Bank RouteSlot 64) : Bool :=
  t.any fun r =>
    r.valid && r.entry.key == { port := .fl, kind := kDemand, relation := .all } && r.entry.consumer == .du

/-- The sections that pass the cross-checks (R184). -/
def State.crossPass (s : State) : Bank Bool 7 :=
  ⟨[routeCross s.lr.routes, groupsCross s.tables.groups, stabCross s.tables, wheelsCross s.tables,
    true, true, true], rfl⟩

/-- The failing-section mask (R184). -/
def State.crossMask (s : State) : Nat := 127 - maskOf s.crossPass

/-- A forced exit from maintenance (R186). -/
def forceExit (w : Work) : Work :=
  let mask := w.st.crossMask
  let pass := w.st.crossPass
  let validity : Bank Bool 7 := Bank.ofFn fun i => w.st.ts.validity.read i && pass.read i
  raise .maintExitForced (BitVec.ofNat 16 mask) (setOpState .run (changeValidity validity w))

/-- ME acts on a change of motion state (R186). -/
def motionHanded (w : Work) : Work :=
  if w.st.me.op = .maintenance ∧ w.st.si.motion = .moving then forceExit w else w

/-- ME acts on a change of PARK's active state (R186). -/
def parkHanded (w : Work) : Work :=
  if w.st.me.op = .maintenance ∧ !w.st.active .park then forceExit w else w

/-- ENTER MAINTENANCE (R183). -/
def enterMaintenanceAnswer (w : Work) : Answer :=
  if w.st.me.op = .run ∧ w.st.si.motion = .stationary ∧ w.st.active .park ∧ !w.st.du.emergency then
    answer .done (setOpState .maintenance w)
  else answer .notStationary w

/-- LEAVE MAINTENANCE (R185). -/
def leaveMaintenanceAnswer (w : Work) : Answer :=
  inMaintenance w
    (if w.st.crossMask = 0 then answer .done (setOpState .run (changeValidity allValid w))
     else { status := .badTables, results := [byteOf w.st.crossMask], work := w })

/-- LEARN WHEEL (R116). -/
def learnWheelAnswer (position : Byte) (w : Work) : Answer :=
  inMaintenance w
    (match indexOf 24 position.toNat with
     | none => answer .badParam w
     | some p =>
       if !w.st.wheelConfigured p then answer .badParam w
       else if w.st.tu.learn.state = .listening then answer .busy w
       else answer .done (startLearn p w))

/-- CANCEL LEARN (R120). -/
def cancelLearnAnswer (w : Work) : Answer :=
  { status := .done, results := [byteOf w.st.tu.learn.state.code], work := cancelLearn w }

/-- A detail and its time with one presence byte for the two (R151; DEDUCED, log 12). -/
def stampBytes (x : Option Stamp) : List Byte :=
  let y := x.getD { detail := 0, time := 0 }
  [flagByte x.isSome] ++ halfBytes y.detail ++ wordBytes y.time

/-- READ NOTICE (R151). -/
def readNoticeAnswer (kind : Byte) (w : Work) : Answer :=
  readIndexed 24 kind
    (fun i =>
      let r := w.st.nu.records.read i
      [flagByte (NoticeKind.ofIndex i).isCondition, flagByte r.flag] ++ natHalf r.count
        ++ stampBytes r.first ++ stampBytes r.latest
        ++ [flagByte r.present, flagByte r.message, flagByte r.lamp]) w

/-- CLEAR NOTICE (R150). -/
def clearNoticeAnswer (kind : Byte) (w : Work) : Answer :=
  match indexOf 24 kind.toNat with
  | none => answer .badParam w
  | some i =>
    let k := NoticeKind.ofIndex i
    if k.isCondition && (w.st.nu.notice k).present then answer .stillActive w
    else answer .done (clearKind k w)

/-- An optional signed number of two bytes: presence byte and value (R195). -/
def optInt (v : Option Int) : List Byte := flagByte v.isSome :: intHalf (v.getD 0)

/-- A snapshot record, its fields in the order of R157; the six targets are fields of fixed number without
a count byte (DEDUCED, log 12). -/
def snapshotBytes (r : Snapshot) : List Byte :=
  wordBytes r.time ++ [byteOf r.trigger.code] ++ natHalf r.vref ++ optInt r.ay ++ optInt r.margin
    ++ natHalf r.fraction ++ natHalf r.inEffect ++ [byteOf r.link.code, byteOf r.cause.code]
    ++ natHalf r.derate ++ r.targets.cells.flatMap natHalf

/-- READ SNAPSHOT (R158). -/
def readSnapshotAnswer (index : Byte) (w : Work) : Answer :=
  let nu := w.st.nu
  let tail := [byteOf nu.snapshots.length, byteOf nu.triggers]
  match indexOf 4 index.toNat with
  | none => answer .badParam w
  | some i =>
    match nu.snapshots[i.val]? with
    | none => { status := .absent, results := tail, work := w }
    | some r => answerRead (snapshotBytes r ++ tail) w

/-- CLEAR SNAPSHOTS (R158). -/
def clearSnapshotsAnswer (w : Work) : Answer :=
  answer .done (w.setNu { w.st.nu with snapshots := [], triggers := 0 })

/-- READ ITEM (R178). A BAD_PARAM reply carries no result bytes (DEDUCED, log 12). -/
def readItemAnswer (item : Half) (index : Byte) (w : Work) : Answer :=
  match readItemAt w.st item.toNat index.toNat with
  | .undefined => { status := .absent, results := itemBytes none, work := w }
  | .badIndex => answer .badParam w
  | .value v => answerRead (itemBytes v) w

/-- WRITE ITEM (R179). -/
def writeItemAnswer (item : Half) (index : Byte) (value : Word) (w : Work) : Answer :=
  match judgeWrite item.toNat index.toNat value.toNat w with
  | .refused st => answer st w
  | .written w1 => answer .done w1

/-- SWAP ITEM (R180). -/
def swapItemAnswer (item : Half) (index : Byte) (expected new : Word) (w : Work) : Answer :=
  match judgeWrite item.toNat index.toNat new.toNat w with
  | .refused st => answer st w
  | .written w1 =>
    match readItemAt w.st item.toNat index.toNat with
    | .value v =>
      if itemWord v = expected then answer .done w1
      else { status := .mismatch, results := wordBytes (itemWord v), work := w }
    | .undefined | .badIndex => answer .badParam w

/-- What a request comes to at once: an answer, or a long operation that holds the slot, or RESTART,
which replies in its own way. -/
inductive Outcome where
  | now (a : Answer)
  | long (kind : LongKind)
  | restart
  deriving DecidableEq, Repr

/-- STORE TABLES (R187). -/
def storeOutcome (w : Work) : Outcome :=
  if w.st.me.op ≠ .maintenance then .now (answer .notInMaintenance w)
  else if w.st.crossMask = 0 then .long .storeTables
  else .now { status := .badTables, results := [byteOf w.st.crossMask], work := w }

/-- CHECK PATH (R93, R182). -/
def pathOutcome (w : Work) : Outcome :=
  if w.st.eligible then .long .checkPath else .now (answer .notStationary w)

/-- A request is executed (R175 line 4). -/
def perform (r : Request) (w : Work) : Outcome :=
  match r with
  | .readItem item i => .now (readItemAnswer item i w)
  | .writeItem item i v => .now (writeItemAnswer item i v w)
  | .swapItem item i e n => .now (swapItemAnswer item i e n w)
  | .readEntry t i => .now (readEntryAt t i w)
  | .writeRoute f => .now (inMaintenance w (writeRouteEntry f w))
  | .writeGroup i f => .now (inMaintenance w (writeGroupEntry i f w))
  | .writeCurve i ps => .now (inMaintenance w (writeCurveEntry i ps w))
  | .writeWheel i f => .now (inMaintenance w (writeWheelEntry i f w))
  | .writeCritical i ps => .now (inMaintenance w (writeCriticalEntry i ps w))
  | .writeStatusField i f => .now (inMaintenance w (writeFieldEntry i f w))
  | .writeNotice i f => .now (inMaintenance w (writeNoticeEntry i f w))
  | .eraseEntry t i => .now (eraseEntryAt t i w)
  | .enterMaintenance => .now (enterMaintenanceAnswer w)
  | .leaveMaintenance => .now (leaveMaintenanceAnswer w)
  | .storeTables => storeOutcome w
  | .restart => if w.st.me.op = .maintenance then .restart else .now (answer .notInMaintenance w)
  | .checkPath => pathOutcome w
  | .learnWheel p => .now (learnWheelAnswer p w)
  | .cancelLearn => .now (cancelLearnAnswer w)
  | .readNotice k => .now (readNoticeAnswer k w)
  | .clearNotice k => .now (clearNoticeAnswer k w)
  | .readSnapshot i => .now (readSnapshotAnswer i w)
  | .clearSnapshots => .now (clearSnapshotsAnswer w)

/-- A long operation takes the slot and begins (R182, R93, R193). -/
def beginLong (src : Source) (code tag : Byte) (kind : LongKind) (w : Work) : Work :=
  let w1 := w.setMe { w.st.me with slot := some { kind := kind, src := src, code := code, tag := tag } }
  match kind with
  | .storeTables => beginStore w1
  | .checkPath =>
    let w2 := w1.setCheck { w1.st.bt.check with requestPending := true }
    if w2.st.bt.check.overall = .running then w2 else startCheck w2

/-- RESTART: the reply is offered and restart pending is entered (R188). -/
def beginRestart (src : Source) (code tag : Byte) (w : Work) : Work :=
  let w1 := replyWith true src code tag .done [] w
  w1.setMe { w1.st.me with restartPending := true, restartTimer := .running Config.restartTime,
                           bufferFl := none, bufferWb := none }

/-- The kind of the long operation in flight as BUSY's result (R175). -/
def busyResult (w : Work) : List Byte :=
  match w.st.me.slot with
  | some op => [byteOf op.kind.code]
  | none => []

/-- A long operation is in flight and the request is not one of the four reading ones (R175 line 2). -/
def heldUp (code : Byte) (w : Work) : Bool := w.st.me.slot.isSome && !isReading code

/-- A request is executed and answered (R175, R176, R182): the reply is offered after the request's own work
and before its hand-offs are carried out (DESIGN CHOICE, log 49). -/
def executeRequest (src : Source) (code tag : Byte) (r : Request) (w : Work) : Work :=
  match perform r w with
  | .now a => reply src code tag a.status a.results a.work
  | .long kind => beginLong src code tag kind w
  | .restart => beginRestart src code tag w

/-- A request whose parameters are in form (R175 lines 2 and 4). -/
def runRequest (src : Source) (tag : Byte) (r : Request) (w : Work) : Work :=
  if heldUp (requestCode r) w then reply src (requestCode r) tag .busy (busyResult w) w
  else executeRequest src (requestCode r) tag r w

/-- A correct group is judged and executed (R175). -/
def runGroup (src : Source) (code tag : Byte) (ps : List Byte) (w : Work) : Work :=
  if !namesRequest code then reply src code tag .unknownRequest [] w
  else if heldUp code w then reply src code tag .busy (busyResult w) w
  else
    match parseRequest code ps with
    | .ok r => executeRequest src code tag r w
    | .badLength => reply src code tag .badParam [] w
    | .unknown => reply src code tag .unknownRequest [] w

/-- The assembly buffer of a source. -/
def ManageUnit.buffer (me : ManageUnit) : Source → Option Assembly
  | .fl => me.bufferFl
  | .wb => me.bufferWb

/-- The assembly buffer of a source replaced. -/
def Work.setBuffer (src : Source) (b : Option Assembly) (w : Work) : Work :=
  match src with
  | .fl => w.setMe { w.st.me with bufferFl := b }
  | .wb => w.setMe { w.st.me with bufferWb := b }

/-- An assembly is refused with BAD_GROUP; the buffer becomes IDLE (R173). -/
def refuseGroup (src : Source) (held : List Byte) (cause : GroupFault) (w : Work) : Work :=
  reply src (held.getD 1 0) (held.getD 2 0) .badGroup [byteOf cause.code] (w.setBuffer src none)

/-- A complete group is judged: its CRC, then the request (R174). -/
def completeGroup (src : Source) (held : List Byte) (w : Work) : Work :=
  let count := (held.getD 0 0).toNat
  let group := held.take count
  let body := group.take (count - 2)
  if crc16 body = halfOf (group.getD (count - 2) 0) (group.getD (count - 1) 0) then
    runGroup src (held.getD 1 0) (held.getD 2 0) (body.drop 3) (w.setBuffer src none)
  else refuseGroup src held .crc w

/-- What follows when a segment has been appended (R172, R173). -/
def segmentAppended (src : Source) (a : Assembly) (carried : Nat) (last : Bool) (w : Work) : Work :=
  if (a.bytes.getD 0 0).toNat ≤ a.bytes.length then completeGroup src a.bytes w
  else if last then refuseGroup src a.bytes .earlyLast w
  else if carried < 7 then refuseGroup src a.bytes .short w
  else w.setBuffer src (some a)

/-- A segment 0 that carries group bytes starts a new group (R172, R173). -/
def firstSegment (src : Source) (body : List Byte) (last : Bool) (w : Work) : Work :=
  let a : Assembly := { bytes := body, next := 1, timer := .running Config.assemblyTime }
  let count := (body.getD 0 0).toNat
  if count < Config.minCount ∨ Config.maxCount < count then refuseGroup src body .count w
  else segmentAppended src a body.length last w

/-- A segment of another index (R172, R173). -/
def laterSegment (src : Source) (index : Nat) (body : List Byte) (last : Bool) (w : Work) : Work :=
  match w.st.me.buffer src with
  | none => w
  | some a =>
    if index ≠ a.next then refuseGroup src a.bytes .order w
    else
      segmentAppended src { a with bytes := a.bytes ++ body, next := a.next + 1 } body.length last w

/-- ME takes a MANAGE REQUEST segment (R172, R188). -/
def takeSegment (src : Source) (f : Frame) (w : Work) : Work :=
  if w.st.me.restartPending then w
  else
    match f.data with
    | [] => w
    | b :: rest =>
      let body := rest.take 7
      let index := (b.extractLsb' 0 4).toNat
      let last := b.getLsbD 4
      if index = 0 then (if body.isEmpty then w else firstSegment src body last w)
      else laterSegment src index body last w

/-- The assembly timer of a source expires (R173). -/
def assemblyExpiry (src : Source) (a : Assembly) (w : Work) : Work := refuseGroup src a.bytes .timeout w

/-- START ends (R190): the image is loaded, the table check is judged, the part is in RUN, and the units
begin as their rules say (R2, R38, R41, R54, R85, R102, R112, R162). -/
def finishStart (supplyPin parkPin : Level) (w : Work) : Work :=
  let w0 := loadImage w
  let w1 := judgeTableCheck (w0.setTs { w0.st.ts with startTimer := .stopped })
  let w2 := startInput .park parkPin (startInput .supply supplyPin w1)
  let w3 := w2.setMe { w2.st.me with op := .run }
  let w4 := w3.setLr { w3.st.lr with flSilence := .running Config.silenceLimit,
                                     rlSilence := .running Config.silenceLimit }
  (deriveMode (judgeEmergency (judgeMotion (startTyres w4)))).emit .scStart

end Sys2Proof.Machine
end

