-- ==== Sys2Proof/Machine/Router.lean ====
section
/-! DEFINITION. LR: the hop test, relation, lookup, consumption and forwarding of a frame
(01_chain_link_traffic.md). -/

namespace Sys2Proof.Machine

/-- The relation of a frame (R9). -/
def relationOf (p : Port) (ownPos : Option Nat) (target : BitVec 3) : Relation :=
  match p with
  | .wb => .self
  | .fl | .rl =>
    if target = 0 then .all
    else
      match ownPos with
      | none => .unplaced
      | some n => if target.toNat = n then .self else if n < target.toNat then .behind else .ahead

/-- A frame received on FL or RL restarts that port's silence timer (R2, R7, R8). -/
def restartSilence (p : Port) (w : Work) : Work :=
  match p with
  | .fl => w.setLr { w.st.lr with flSilence := .running Config.silenceLimit }
  | .rl => w.setLr { w.st.lr with rlSilence := .running Config.silenceLimit }
  | .wb => w

/-- Detail of ROUTE_MISS (R200). -/
def missDetail (k : RouteKey) : Half :=
  BitVec.ofNat 16 (k.kind.toNat * 256 + portCode k.port * 16 + k.relation.code)

/-- The copy of a frame that LR offers to another port (R4, R17): not originated here. -/
def forwardMsg (f : Frame) : QMsg :=
  { kind := f.kind, hdr := f.hdr, data := f.data, own := false, restartReply := false, sending := false }

/-- The data of a copy toward RL: a DEMAND of right check byte carries the chain flag while emergency is
on (R57). -/
def rearData (emergency : Bool) (f : Frame) : List Byte :=
  if f.kind = kDemand ∧ emergency ∧ demandCheckOk f.data ∧ !chainFlagOf f.data then withChainFlag f.data
  else f.data

/-- A copy toward RL: hop rewritten to own position, dropped while it is unknown or 4 (R16). -/
def forwardRear (f : Frame) (w : Work) : Work :=
  match w.st.lr.ownPos with
  | none => w
  | some p =>
    if p = 4 then w
    else
      (offer .rl
        { forwardMsg f with hdr := { f.hdr with hop := BitVec.ofNat 3 p },
                            data := rearData w.st.du.emergency f } w).1

/-- The copies of a frame to the ports of the forward set other than its own (R12, R16, R17). R12 gives the
copies of one frame no order: the model offers the one toward FL first (DESIGN CHOICE, log 53). -/
def forward (p : Port) (e : RouteEntry) (f : Frame) (w : Work) : Work :=
  let w1 := if e.toFL && p != .fl then (offer .fl (forwardMsg f) w).1 else w
  if e.toRL && p != .rl then forwardRear f w1 else w1

/-- The five sample kinds (R3). -/
def isSampleKind (k : BitVec 5) : Bool :=
  k == kSpeed || k == kBellows || k == kMotion || k == kAir || k == kFeedback

/-- A consumer takes a message, or discards it when its kind or port is another (R12). The result tells
whether the frame may be forwarded: a DEMAND that DU finds invalid may not (R16). -/
def consume (c : Consumer) (p : Port) (f : Frame) (w : Work) : Work × Bool :=
  match c with
  | .noUnit => (w, true)
  | .du =>
    if p = .fl ∧ f.kind = kDemand then
      let r := takeDemand f.hdr.hop f.data w
      (r.1, r.2 != .invalid)
    else (w, true)
  | .si => (if p = .wb ∧ isSampleKind f.kind then intakeFrame f w else w, true)
  | .tu => (if p = .wb ∧ f.kind = kTyre then takeReport f w else w, true)
  | .sc => (if p = .rl ∧ f.kind = kStatus then takeRear f w else w, true)
  | .me =>
    (if f.kind = kManageRequest then
       match p with
       | .fl => takeSegment .fl f w
       | .wb => takeSegment .wb f w
       | .rl => w
     else w, true)

/-- The action of the entry a lookup has hit (R12). The rule lets consumption and forwarding come in either
order, but for a DEMAND: the model consumes first, so an own STATUS that a STATUS from behind brings about
is older in the FL queue than the forwarded one (DESIGN CHOICE, log 46). -/
def actOn (e : RouteEntry) (p : Port) (f : Frame) (w : Work) : Work :=
  let r := consume e.consumer p f w
  if r.2 then forward p e f r.1 else r.1

/-- The key of a frame (R9, R10). -/
def frameKey (p : Port) (ownPos : Option Nat) (f : Frame) : RouteKey :=
  { port := p, kind := f.kind, relation := relationOf p ownPos f.hdr.target }

/-- The used flag of a slot set (R11). -/
def setUsed (i : Fin 64) (w : Work) : Work :=
  w.setLr { w.st.lr with
    routes := w.st.lr.routes.write i { w.st.lr.routes.read i with used := true } }

/-- A frame is looked up and acted on, or dropped with ROUTE_MISS (R11, R12). -/
def routeFrame (p : Port) (f : Frame) (w : Work) : Work :=
  let key := frameKey p w.st.lr.ownPos f
  match lookupRoute w.st.lr.routes key with
  | some i => actOn (w.st.lr.routes.read i).entry p f (setUsed i w)
  | none => raise .routeMiss (missDetail key) w

/-- A frame is taken (R2): the hop test for a DEMAND on FL, then the lookup (R6). -/
def takeFrame (p : Port) (f : Frame) (w : Work) : Work :=
  if p = .fl ∧ f.kind = kDemand ∧ !hopTest w.st.lr.ownPos f.hdr.hop then
    raise .hopMismatch (BitVec.ofNat 16 f.hdr.hop.toNat) w
  else routeFrame p f w

/-- A port receives frames: it is ON, and START has ended (R1, R2). -/
def State.receives (s : State) (p : Port) : Bool := (s.port p).on && s.me.op != .start

/-- A data frame with a 29-bit identifier is received (R2). -/
def receiveFrame (p : Port) (f : Frame) (w : Work) : Work :=
  if w.st.receives p then takeFrame p f (restartSilence p w) else w

/-- Any CAN frame is received (R2): a frame of another form restarts the silence timer alone. -/
def receiveBus (p : Port) (f : BusFrame) (w : Work) : Work :=
  match f.form with
  | .extended => receiveFrame p (BusFrame.taken f) w
  | .standard | .remote => if w.st.receives p then restartSilence p w else w

/-- A port's controller reaches bus-off (R1). -/
def busOff (p : Port) (w : Work) : Work :=
  if (w.st.port p).on then
    raise .txOverflow (txDetail p true)
      { w with
        st := w.st.setPort p
          { on := false, offTimer := .running Config.portOffTime, txErrors := 0, rxErrors := 0, queue := [] } }
  else w

/-- A port turns ON again (R1). -/
def portOn (p : Port) (w : Work) : Work :=
  { w with st := w.st.setPort p { w.st.port p with on := true, offTimer := .stopped, queue := [] } }

/-- A port's queue replaced. -/
def setQueue (p : Port) (q : List QMsg) (w : Work) : Work :=
  { w with st := w.st.setPort p { w.st.port p with queue := q } }

/-- FL is silent (R7, R51, R169). The spec does not order the recomposition of F6 against the hand-offs of F12
and F2: the model recomposes F6 first, so a STATUS offered for it has origin 0 and still the old F12 and F2
(DESIGN CHOICE, log 45). -/
def flSilent (w : Work) : Work :=
  let w1 := setQueue .rl [] (w.setLr { w.st.lr with flSilence := .expired })
  clearRear (silenceDemand (setOwnPos none w1))

/-- RL is silent (R8, R169). -/
def rlSilent (w : Work) : Work := clearRear (w.setLr { w.st.lr with rlSilence := .expired })

end Sys2Proof.Machine
end

