-- ==== Sys2Proof/Machine/Settle.lean ====
section
/-! DEFINITION. One event, whole: its work, the hand-offs that follow from it, and the restart that an
event may bring about (95_what_each_step_holds.md, R188). -/

namespace Sys2Proof.Machine

/-- The receiving unit acts on a hand-off. -/
def handle (allowPulse : Bool) (h : HandOff) (w : Work) : Work :=
  match h with
  | .luBellows g => bellowsHanded g w
  | .luAll => computeAll w
  | .luGroup g => computeGroup g w
  | .btService g => recomputeGroup g w
  | .btDemand c => recomputeChannel c w
  | .btCap g => recomputeGroup g w
  | .btLimit => recomputeAll w
  | .btMode => brakeModeHanded w
  | .btEligible => judgeEligible w
  | .btConfigured => followGroups w
  | .btFeedback c v => feedbackHanded c v w
  | .btFeedbackLost c => feedbackLost c w
  | .su e => stabEvent allowPulse e w
  | .siTestChannel => recomputeVref (w.setSi { w.st.si with testChannel := w.st.su.testChannel })
  | .duControlLine => controlLineHanded w
  | .duSupply => supplyHanded w
  | .meMotion => motionHanded w
  | .mePark => parkHanded w
  | .scLive f v => liveHanded f v w
  | .scTarget c t => targetHanded c t w
  | .scLoad g l q => loadHanded g l q w
  | .scFraction f => fractionHanded f w
  | .scCompose => judgeNews w
  | .scStart => startSending w

/-- A test pulse has started between two states. -/
def pulseStarted (before after : State) : Bool := before.su.state != .testing && after.su.state == .testing

/-- The hand-offs of an event are carried out, first made first, until none is left (log 3); the number
bounds them, and one pulse may start (log 4). -/
def settle : Nat → Bool → Work → Work
  | 0, _, w => w
  | n + 1, allowPulse, w =>
    match w.todo with
    | [] => w
    | h :: rest =>
      let w1 := handle allowPulse h { w with todo := rest }
      settle n (allowPulse && !pulseStarted w.st w1.st) w1

/-- A segment of the RESTART reply still stands in a queue (R188). -/
def State.restartReplyWaits (s : State) : Bool := s.lr.ports.any fun p => p.queue.any (·.restartReply)

/-- In restart pending, the restart takes place when the reply stands in no queue any more: sent, removed,
or never placed (R188). -/
def checkRestart (s : State) : State :=
  if s.me.restartPending && !s.restartReplyWaits then restartPart s else s

/-- The state when an event's work is done, with what the bound left of its hand-offs (log 4). -/
def Work.finish (w : Work) : State := w.st.setOwed w.todo

/-- An event taken whole: its work, its hand-offs, and the restart they may bring about. The order of what one
unit does in it, where no rule gives one, is the model's (DESIGN CHOICE, log 49). -/
def event (f : Work → Work) (s : State) : State :=
  checkRestart (settle Config.handOffBound true (f (Work.begin s))).finish

/-- A command that is an event. -/
def run (f : Work → Work) (s : State) : Host.Outcome State Fault Refusal := .next (event f s)

/-- A command that is an event only when its occasion is there; otherwise the part is as it was (log 2,
log 22). -/
def runWhen (b : Bool) (f : Work → Work) (s : State) : Host.Outcome State Fault Refusal :=
  if b then run f s else .next s

/-- A request command: a correct group of the request is complete from its source (log 15). None arrives
in START, and none is executed in restart pending (R2, R188). The state of the source's port is not asked:
a group that is complete is executed also while the port is OFF (DESIGN CHOICE, log 15). -/
def request (src : Source) (tag : Byte) (r : Request) (s : State) : Host.Outcome State Fault Refusal :=
  runWhen (s.me.op != .start && !s.me.restartPending) (runRequest src tag r) s

end Sys2Proof.Machine
end

