-- ==== Sys2Proof/Machine/TimerCommands.lean ====
section
/-! DEFINITION. The commands that are expiries, ticks and samples of the inputs, each an event when its occasion is there (log 2). -/

namespace Sys2Proof.Machine

/-- STALE_TIMER_EXPIRY (R32). -/
def execStaleTimerExpiry (r : Fin 18) (s : State) : Host.Outcome State Fault Refusal :=
  runWhen (s.si.records.read r).stale.due (staleExpiry (Quantity.ofIndex r)) s

/-- STATIONARY_TIMER_EXPIRY (R38). -/
def execStationaryTimerExpiry (s : State) : Host.Outcome State Fault Refusal :=
  runWhen s.si.stationary.due stationaryExpiry s

/-- SUPPLY_ACCEPTED (R39, R40): SI accepts a level of SUPPLY, at an edge or at a second sample of it. -/
def execSupplyAccepted (l : Level) (s : State) : Host.Outcome State Fault Refusal :=
  runWhen (s.canAccept .supply l) (samplePin .supply l) s

/-- PARK_ACCEPTED (R39, R40): SI accepts a level of PARK, at an edge or at a second sample of it. -/
def execParkAccepted (l : Level) (s : State) : Host.Outcome State Fault Refusal :=
  runWhen (s.canAccept .park l) (samplePin .park l) s

/-- DEMAND_TIMEOUT (R49). -/
def execDemandTimeout (s : State) : Host.Outcome State Fault Refusal :=
  runWhen s.du.timeout.due loseDemand s

/-- REFRESH_TIMER_EXPIRY (R87). -/
def execRefreshTimerExpiry (c : Fin 6) (s : State) : Host.Outcome State Fault Refusal :=
  runWhen (s.channel c).refresh.due (refreshExpiry c) s

/-- DEVIATION_TIMER_EXPIRY (R89). -/
def execDeviationTimerExpiry (c : Fin 6) (s : State) : Host.Outcome State Fault Refusal :=
  runWhen (s.channel c).deviation.due (fun w => setFault c (!(w.st.channel c).fault) w) s

/-- STEP_TIMER_EXPIRY (R94, R95). -/
def execStepTimerExpiry (s : State) : Host.Outcome State Fault Refusal :=
  runWhen s.bt.check.stepTimer.due stepExpiry s

/-- SECOND_TICK (R108): the tick of the present whole second. -/
def execSecondTick (s : State) : Host.Outcome State Fault Refusal :=
  runWhen s.tu.tickDue secondTick s

/-- MISSING_TIMER_EXPIRY (R108). -/
def execMissingTimerExpiry (p : Fin 24) (s : State) : Host.Outcome State Fault Refusal :=
  runWhen ((s.wheel p).missing == some 0) (missingExpiry p) s

/-- LEARN_TIMEOUT (R119). -/
def execLearnTimeout (s : State) : Host.Outcome State Fault Refusal :=
  runWhen s.tu.learn.timeout.due learnExpiry s

/-- PULSE_TIMER_EXPIRY (R137). -/
def execPulseTimerExpiry (s : State) : Host.Outcome State Fault Refusal :=
  runWhen s.su.pulseTimer.due (fun w => w.emit (.su .pulseExpiry)) s

/-- TEST_TIMER_EXPIRY (R138). -/
def execTestTimerExpiry (s : State) : Host.Outcome State Fault Refusal :=
  runWhen s.su.testTimer.due (fun w => w.emit (.su .testExpiry)) s

/-- MINIMUM_TIMER_EXPIRY (R140). -/
def execMinimumTimerExpiry (s : State) : Host.Outcome State Fault Refusal :=
  runWhen s.su.minTimer.due (fun w => w.emit (.su .minExpiry)) s

/-- RELEASE_TIMER_EXPIRY (R141). -/
def execReleaseTimerExpiry (s : State) : Host.Outcome State Fault Refusal :=
  runWhen s.su.releaseTimer.due (fun w => w.emit (.su .releaseExpiry)) s

/-- STATUS_MINIMUM_TIMER_EXPIRY (R163). -/
def execStatusMinimumTimerExpiry (s : State) : Host.Outcome State Fault Refusal :=
  runWhen s.sc.minTimer.due minStatusExpiry s

/-- STATUS_PERIODIC_TIMER_EXPIRY (R164). -/
def execStatusPeriodicTimerExpiry (s : State) : Host.Outcome State Fault Refusal :=
  runWhen s.sc.periodic.due periodicExpiry s

/-- ASSEMBLY_TIMER_EXPIRY (R173). -/
def execAssemblyTimerExpiry (src : Source) (s : State) : Host.Outcome State Fault Refusal :=
  match s.me.buffer src with
  | some a => runWhen a.timer.due (assemblyExpiry src a) s
  | none => .next s

/-- RESTART_TIMER_EXPIRY (R188): 100 ms since the reply was offered. -/
def execRestartTimerExpiry (s : State) : Host.Outcome State Fault Refusal :=
  if s.me.restartPending && s.me.restartTimer.due then .next (restartPart s) else .next s

/-- STORE_WRITE_COMPLETE (R193): the part in progress has been written whole. -/
def execStoreWriteComplete (s : State) : Host.Outcome State Fault Refusal :=
  match s.ts.writing with
  | some i => run (writeCompleted i) s
  | none => .next s

/-- STORE_WRITE_FAILURE (R194). -/
def execStoreWriteFailure (s : State) : Host.Outcome State Fault Refusal :=
  runWhen s.ts.writing.isSome (storeFailed 1) s

/-- STORE_TIME_LIMIT_EXPIRY (R194). -/
def execStoreTimeLimitExpiry (s : State) : Host.Outcome State Fault Refusal :=
  runWhen s.ts.limit.due (storeFailed 0) s

/-- INPUT_FILTER_SAMPLE (R39): SI samples an input whose sample is due, or takes an edge of an unfiltered
one. -/
def execInputFilterSample (p : Pin) (l : Level) (s : State) : Host.Outcome State Fault Refusal :=
  runWhen (s.me.op != .start) (samplePin p l) s

end Sys2Proof.Machine
end

