-- ==== Sys2Proof/Machine/Clock.lean ====
section
/-! DEFINITION. The part's own clock: which expiry is due, and one millisecond (00_scope.md "Time count",
log 1). -/

namespace Sys2Proof.Machine

/-- A command when its occasion is there. -/
def dueIf (b : Bool) (c : Instr) : List Instr := if b then [c] else []

/-- The sample of an input that is due, at its pin's level (R39). -/
def dueSample (s : State) (p : Pin) : List Instr :=
  dueIf (s.input p).sampler.due (.inputFilterSample p (s.input p).pin)

/-- The assembly expiry of a source that is due (R173). -/
def dueAssembly (s : State) (src : Source) : List Instr :=
  dueIf ((s.me.buffer src).any (·.timer.due)) (.assemblyTimerExpiry src)

/-- The expiries that are due, in the order in which an idle part takes them (log 1). -/
def State.dueCommands (s : State) : List Instr :=
  dueIf s.ts.startTimer.due (.endOfStart s.si.supply.pin s.si.park.pin)
    ++ [Port.fl, Port.rl, Port.wb].flatMap (fun p => dueIf (s.port p).offTimer.due (.portOn p))
    ++ dueIf s.lr.flSilence.due .flSilence
    ++ dueIf s.lr.rlSilence.due .rlSilence
    ++ (indices 18).flatMap (fun r => dueIf (s.si.records.read r).stale.due (.staleTimerExpiry r))
    ++ dueIf s.si.stationary.due .stationaryTimerExpiry
    ++ dueSample s .supply ++ dueSample s .park
    ++ dueIf s.du.timeout.due .demandTimeout
    ++ channels.flatMap (fun c => dueIf (s.channel c).deviation.due (.deviationTimerExpiry c))
    ++ dueIf s.bt.check.stepTimer.due .stepTimerExpiry
    ++ dueIf s.tu.tickDue .secondTick
    ++ wheelsList.flatMap (fun p => dueIf ((s.wheel p).missing == some 0) (.missingTimerExpiry p))
    ++ dueIf s.tu.learn.timeout.due .learnTimeout
    ++ dueIf s.su.pulseTimer.due .pulseTimerExpiry
    ++ dueIf s.su.testTimer.due .testTimerExpiry
    ++ dueIf s.su.minTimer.due .minimumTimerExpiry
    ++ dueIf s.su.releaseTimer.due .releaseTimerExpiry
    ++ channels.flatMap (fun c => dueIf (s.channel c).refresh.due (.refreshTimerExpiry c))
    ++ dueIf s.sc.minTimer.due .statusMinimumTimerExpiry
    ++ dueIf s.sc.periodic.due .statusPeriodicTimerExpiry
    ++ dueAssembly s .fl ++ dueAssembly s .wb
    ++ dueIf (s.me.restartPending && s.me.restartTimer.due) .restartTimerExpiry
    ++ dueIf s.ts.limit.due .storeTimeLimitExpiry

/-- LR one millisecond later. -/
def LinkRouter.tick (lr : LinkRouter) : LinkRouter :=
  { lr with ports := lr.ports.map fun p => { p with offTimer := p.offTimer.tick }
            flSilence := lr.flSilence.tick, rlSilence := lr.rlSilence.tick }

/-- SI one millisecond later. -/
def SampleIntake.tick (si : SampleIntake) : SampleIntake :=
  { si with records := si.records.map fun r => { r with stale := r.stale.tick }
            stationary := si.stationary.tick
            supply := { si.supply with sampler := si.supply.sampler.tick }
            park := { si.park with sampler := si.park.sampler.tick } }

/-- BT one millisecond later. -/
def BrakeUnit.tick (bt : BrakeUnit) : BrakeUnit :=
  { channels := bt.channels.map fun r => { r with refresh := r.refresh.tick, deviation := r.deviation.tick }
    check := { bt.check with stepTimer := bt.check.stepTimer.tick } }

/-- SU one millisecond later. -/
def StabUnit.tick (su : StabUnit) : StabUnit :=
  { su with pulseTimer := su.pulseTimer.tick, testTimer := su.testTimer.tick, minTimer := su.minTimer.tick
            releaseTimer := su.releaseTimer.tick }

/-- SC one millisecond later. -/
def StatusUnit.tick (sc : StatusUnit) : StatusUnit :=
  { sc with minTimer := sc.minTimer.tick, periodic := sc.periodic.tick }

/-- ME one millisecond later. -/
def ManageUnit.tick (me : ManageUnit) : ManageUnit :=
  { me with bufferFl := me.bufferFl.map fun a => { a with timer := a.timer.tick }
            bufferWb := me.bufferWb.map fun a => { a with timer := a.timer.tick }
            restartTimer := me.restartTimer.tick }

/-- TS one millisecond later. -/
def StoreUnit.tick (ts : StoreUnit) : StoreUnit :=
  { ts with limit := ts.limit.tick, startTimer := ts.startTimer.tick }

/-- A second tick falls at a time count that is a multiple of 1000 ms, from the end of START onward
(R108). -/
def secondFalls (op : OpState) (time : Word) : Bool := op != .start && time.toNat % 1000 == 0

/-- TU one millisecond later, at the time count `time`. -/
def TyreUnit.tick (tu : TyreUnit) (op : OpState) (time : Word) : TyreUnit :=
  { tu with tickDue := tu.tickDue || secondFalls op time
            learn := { tu.learn with timeout := tu.learn.timeout.tick } }

/-- One millisecond passes: the time count rises by 1 and every running timer loses 1 (log 1). -/
def State.tick (s : State) : State :=
  { s with
    time := s.time + 1, lr := s.lr.tick, si := s.si.tick
    du := { s.du with timeout := s.du.timeout.tick }
    bt := s.bt.tick, tu := s.tu.tick s.me.op (s.time + 1), su := s.su.tick, sc := s.sc.tick, me := s.me.tick
    ts := s.ts.tick }

end Sys2Proof.Machine
end

