-- ==== Sys2Proof/Machine/EntryCommands.lean ====
section
/-! DEFINITION. The commands that are requests on table entries (R181). -/

namespace Sys2Proof.Machine

/-- READ_ENTRY_ROUTE (R181, R13, R14). -/
def execReadEntryRoute (src : Source) (tag : Byte) (slot : Byte) (s : State) :
    Host.Outcome State Fault Refusal :=
  request src tag (.readEntry 1 slot) s

/-- WRITE_ENTRY_ROUTE (R181, R13, R14). -/
def execWriteEntryRoute (src : Source) (tag : Byte) (fields : RouteFields) (s : State) :
    Host.Outcome State Fault Refusal :=
  request src tag (.writeRoute fields) s

/-- ERASE_ENTRY_ROUTE (R181, R13, R14). -/
def execEraseEntryRoute (src : Source) (tag : Byte) (slot : Byte) (s : State) :
    Host.Outcome State Fault Refusal :=
  request src tag (.eraseEntry 1 slot) s

/-- READ_ENTRY_GROUP (R181, R62). -/
def execReadEntryGroup (src : Source) (tag : Byte) (index : Byte) (s : State) :
    Host.Outcome State Fault Refusal :=
  request src tag (.readEntry 2 index) s

/-- WRITE_ENTRY_GROUP (R181, R62). -/
def execWriteEntryGroup (src : Source) (tag : Byte) (index : Byte) (fields : GroupFields) (s : State) :
    Host.Outcome State Fault Refusal :=
  request src tag (.writeGroup index fields) s

/-- ERASE_ENTRY_GROUP (R181, R62). -/
def execEraseEntryGroup (src : Source) (tag : Byte) (index : Byte) (s : State) :
    Host.Outcome State Fault Refusal :=
  request src tag (.eraseEntry 2 index) s

/-- READ_ENTRY_CURVE (R181, R63). -/
def execReadEntryCurve (src : Source) (tag : Byte) (index : Byte) (s : State) :
    Host.Outcome State Fault Refusal :=
  request src tag (.readEntry 3 index) s

/-- WRITE_ENTRY_CURVE (R181, R63). -/
def execWriteEntryCurve (src : Source) (tag : Byte) (index : Byte) (points : List (Half × Half)) (s : State) :
    Host.Outcome State Fault Refusal :=
  request src tag (.writeCurve index points) s

/-- ERASE_ENTRY_CURVE (R181, R63). -/
def execEraseEntryCurve (src : Source) (tag : Byte) (index : Byte) (s : State) :
    Host.Outcome State Fault Refusal :=
  request src tag (.eraseEntry 3 index) s

/-- READ_ENTRY_WHEEL (R181, R99, R100). -/
def execReadEntryWheel (src : Source) (tag : Byte) (index : Byte) (s : State) :
    Host.Outcome State Fault Refusal :=
  request src tag (.readEntry 4 index) s

/-- WRITE_ENTRY_WHEEL (R181, R99, R100). -/
def execWriteEntryWheel (src : Source) (tag : Byte) (index : Byte) (fields : WheelFields) (s : State) :
    Host.Outcome State Fault Refusal :=
  request src tag (.writeWheel index fields) s

/-- ERASE_ENTRY_WHEEL (R181, R99, R100). -/
def execEraseEntryWheel (src : Source) (tag : Byte) (index : Byte) (s : State) :
    Host.Outcome State Fault Refusal :=
  request src tag (.eraseEntry 4 index) s

/-- READ_ENTRY_CRITICAL (R181, R124). -/
def execReadEntryCritical (src : Source) (tag : Byte) (index : Byte) (s : State) :
    Host.Outcome State Fault Refusal :=
  request src tag (.readEntry 5 index) s

/-- WRITE_ENTRY_CRITICAL (R181, R124). -/
def execWriteEntryCritical (src : Source) (tag : Byte) (index : Byte) (points : List (Half × Half)) (s : State) :
    Host.Outcome State Fault Refusal :=
  request src tag (.writeCritical index points) s

/-- ERASE_ENTRY_CRITICAL (R181, R124). -/
def execEraseEntryCritical (src : Source) (tag : Byte) (index : Byte) (s : State) :
    Host.Outcome State Fault Refusal :=
  request src tag (.eraseEntry 5 index) s

/-- READ_ENTRY_STATUS_FIELD (R181, R160). -/
def execReadEntryStatusField (src : Source) (tag : Byte) (index : Byte) (s : State) :
    Host.Outcome State Fault Refusal :=
  request src tag (.readEntry 6 index) s

/-- WRITE_ENTRY_STATUS_FIELD (R181, R160). -/
def execWriteEntryStatusField (src : Source) (tag : Byte) (index : Byte) (fields : StatusFieldFields) (s : State) :
    Host.Outcome State Fault Refusal :=
  request src tag (.writeStatusField index fields) s

/-- ERASE_ENTRY_STATUS_FIELD (R181, R160). -/
def execEraseEntryStatusField (src : Source) (tag : Byte) (index : Byte) (s : State) :
    Host.Outcome State Fault Refusal :=
  request src tag (.eraseEntry 6 index) s

/-- READ_ENTRY_NOTICE (R181, R152). -/
def execReadEntryNotice (src : Source) (tag : Byte) (index : Byte) (s : State) :
    Host.Outcome State Fault Refusal :=
  request src tag (.readEntry 7 index) s

/-- WRITE_ENTRY_NOTICE (R181, R152). -/
def execWriteEntryNotice (src : Source) (tag : Byte) (index : Byte) (fields : NoticeFields) (s : State) :
    Host.Outcome State Fault Refusal :=
  request src tag (.writeNotice index fields) s

/-- ERASE_ENTRY_NOTICE (R181, R152). -/
def execEraseEntryNotice (src : Source) (tag : Byte) (index : Byte) (s : State) :
    Host.Outcome State Fault Refusal :=
  request src tag (.eraseEntry 7 index) s

end Sys2Proof.Machine
end

