-- ==== Sys2Proof/Machine/FrameCommands.lean ====
section
/-! DEFINITION. The commands that are frames received: the whole reception of R2, whatever the frame (log 14). -/

namespace Sys2Proof.Machine

/-- FRAME_RECEIVED (R2): any CAN frame on any port. -/
def execFrameReceived (p : Port) (f : BusFrame) (s : State) : Host.Outcome State Fault Refusal :=
  run (receiveBus p f) s

/-- DEMAND (R6, R45): a DEMAND received on FL. -/
def execDemand (hdr : Header) (data : List Byte) (s : State) : Host.Outcome State Fault Refusal :=
  run (receiveFrame .fl { kind := kDemand, hdr := hdr, data := data }) s

/-- STATUS_FROM_REAR (R168): a STATUS received on RL. -/
def execStatusFromRear (hdr : Header) (data : List Byte) (s : State) : Host.Outcome State Fault Refusal :=
  run (receiveFrame .rl { kind := kStatus, hdr := hdr, data := data }) s

/-- SPEED_SAMPLE (R28): a SPEED SAMPLE received on WB. -/
def execSpeedSample (hdr : Header) (data : List Byte) (s : State) : Host.Outcome State Fault Refusal :=
  run (receiveFrame .wb { kind := kSpeed, hdr := hdr, data := data }) s

/-- BELLOWS_SAMPLE (R34): a BELLOWS SAMPLE received on WB. -/
def execBellowsSample (hdr : Header) (data : List Byte) (s : State) : Host.Outcome State Fault Refusal :=
  run (receiveFrame .wb { kind := kBellows, hdr := hdr, data := data }) s

/-- MOTION_SAMPLE (R35): a MOTION SAMPLE received on WB. -/
def execMotionSample (hdr : Header) (data : List Byte) (s : State) : Host.Outcome State Fault Refusal :=
  run (receiveFrame .wb { kind := kMotion, hdr := hdr, data := data }) s

/-- AIR_SAMPLE (R28): an AIR SAMPLE received on WB. -/
def execAirSample (hdr : Header) (data : List Byte) (s : State) : Host.Outcome State Fault Refusal :=
  run (receiveFrame .wb { kind := kAir, hdr := hdr, data := data }) s

/-- FEEDBACK_SAMPLE (R88): a FEEDBACK SAMPLE received on WB. -/
def execFeedbackSample (hdr : Header) (data : List Byte) (s : State) : Host.Outcome State Fault Refusal :=
  run (receiveFrame .wb { kind := kFeedback, hdr := hdr, data := data }) s

/-- TYRE_REPORT (R104): a TYRE REPORT received on WB. -/
def execTyreReport (hdr : Header) (data : List Byte) (s : State) : Host.Outcome State Fault Refusal :=
  run (receiveFrame .wb { kind := kTyre, hdr := hdr, data := data }) s

/-- MANAGE_REQUEST_SEGMENT (R172): a MANAGE REQUEST received on the port of its source. -/
def execManageRequestSegment (src : Source) (hdr : Header) (data : List Byte) (s : State) :
    Host.Outcome State Fault Refusal :=
  run (receiveFrame (sourcePort src) { kind := kManageRequest, hdr := hdr, data := data }) s

end Sys2Proof.Machine
end

