-- ==== Sys2Proof/Machine/ItemCommands.lean ====
section
/-! DEFINITION. The commands that are requests on items (R177 to R180). -/

namespace Sys2Proof.Machine

/-- READ_ITEM (R178). -/
def execReadItem (src : Source) (tag : Byte) (item : Half) (index : Byte) (s : State) :
    Host.Outcome State Fault Refusal :=
  request src tag (.readItem item index) s

/-- WRITE_ITEM (R179). -/
def execWriteItem (src : Source) (tag : Byte) (item : Half) (index : Byte) (value : Word) (s : State) :
    Host.Outcome State Fault Refusal :=
  request src tag (.writeItem item index value) s

/-- SWAP_ITEM (R180). -/
def execSwapItem (src : Source) (tag : Byte) (item : Half) (index : Byte) (expected new : Word) (s : State) :
    Host.Outcome State Fault Refusal :=
  request src tag (.swapItem item index expected new) s

/-- WRITE_ROUTE_USED_FLAG_ITEM (R14): item 0x220. -/
def execWriteRouteUsedFlagItem (src : Source) (tag : Byte) (index : Byte) (value : Word) (s : State) :
    Host.Outcome State Fault Refusal :=
  request src tag (.writeItem 0x220 index value) s

/-- WRITE_GROUPS_PARAMETER (R64): items 0x100, 0x101. -/
def execWriteGroupsParameter (src : Source) (tag : Byte) (param : GroupsParam) (index : Byte) (value : Word) (s : State) :
    Host.Outcome State Fault Refusal :=
  request src tag (.writeItem (groupsItem param) index value) s

/-- WRITE_STABILITY_PARAMETER (R123): items 0x110 to 0x121. -/
def execWriteStabilityParameter (src : Source) (tag : Byte) (param : StabParam) (index : Byte) (value : Word) (s : State) :
    Host.Outcome State Fault Refusal :=
  request src tag (.writeItem (stabParamItem param) index value) s

/-- WRITE_TYRE_SETTING (R101): items 0x130 to 0x134. -/
def execWriteTyreSetting (src : Source) (tag : Byte) (setting : TyreSetting) (index : Byte) (value : Word) (s : State) :
    Host.Outcome State Fault Refusal :=
  request src tag (.writeItem (tyreSettingItem setting) index value) s

/-- WRITE_FILTER_SETTING (R42): items 0x140 to 0x143. -/
def execWriteFilterSetting (src : Source) (tag : Byte) (setting : FilterItem) (index : Byte) (value : Word) (s : State) :
    Host.Outcome State Fault Refusal :=
  request src tag (.writeItem (filterItemNumber setting) index value) s

/-- WRITE_STATUS_INTERVAL (R166): items 0x150, 0x151. -/
def execWriteStatusInterval (src : Source) (tag : Byte) (interval : IntervalItem) (index : Byte) (value : Word) (s : State) :
    Host.Outcome State Fault Refusal :=
  request src tag (.writeItem (intervalItemNumber interval) index value) s

/-- WRITE_REAR_MATCH_SETTING (R167): items 0x152, 0x153. -/
def execWriteRearMatchSetting (src : Source) (tag : Byte) (setting : RearItem) (index : Byte) (value : Word) (s : State) :
    Host.Outcome State Fault Refusal :=
  request src tag (.writeItem (rearItemNumber setting) index value) s

/-- WRITE_NOTICE_ENABLE (R152): items 0x200, 0x201. -/
def execWriteNoticeEnable (src : Source) (tag : Byte) (enable : EnableItem) (index : Byte) (value : Word) (s : State) :
    Host.Outcome State Fault Refusal :=
  request src tag (.writeItem (enableItemNumber enable) index value) s

/-- WRITE_SNAPSHOT_SETTING (R155): items 0x210, 0x211. -/
def execWriteSnapshotSetting (src : Source) (tag : Byte) (setting : SnapItem) (index : Byte) (value : Word) (s : State) :
    Host.Outcome State Fault Refusal :=
  request src tag (.writeItem (snapItemNumber setting) index value) s

end Sys2Proof.Machine
end

