-- ==== Sys2Proof/Machine/PortCommands.lean ====
section
/-! DEFINITION. The commands of start-up, of the ports and of the transmitters. -/

namespace Sys2Proof.Machine

/-- POWER_ON (R190): application of supply or assertion of RESET. -/
def execPowerOn (s : State) : Host.Outcome State Fault Refusal :=
  .next (powerOn s)

/-- END_OF_START (R190): the seventh section has been judged; the pins stand as given (R41). -/
def execEndOfStart (supplyPin parkPin : Level) (s : State) : Host.Outcome State Fault Refusal :=
  runWhen (s.me.op == .start) (finishStart supplyPin parkPin) s

/-- BUS_OFF (R1). -/
def execBusOff (p : Port) (s : State) : Host.Outcome State Fault Refusal :=
  run (busOff p) s

/-- PORT_ON (R1): 200 ms after a port turned OFF. -/
def execPortOn (p : Port) (s : State) : Host.Outcome State Fault Refusal :=
  runWhen (s.port p).offTimer.due (portOn p) s

/-- TRANSMISSION_ATTEMPT_START (R19): the transmitter of an ON port chooses and starts. -/
def execTransmissionAttemptStart (p : Port) (s : State) : Host.Outcome State Fault Refusal :=
  runWhen (s.port p).on (fun w => setQueue p (startAttempt (w.st.port p).queue) w) s

/-- TRANSMISSION_SUCCEEDED (R19): the message in transmission leaves the queue. -/
def execTransmissionSucceeded (p : Port) (s : State) : Host.Outcome State Fault Refusal :=
  run (fun w => setQueue p (attemptSucceeded (w.st.port p).queue) w) s

/-- TRANSMISSION_FAILED (R19): the message in transmission returns to waiting, or is superseded. -/
def execTransmissionFailed (p : Port) (s : State) : Host.Outcome State Fault Refusal :=
  run (fun w => setQueue p (attemptFailed (w.st.port p).queue) w) s

/-- FL_SILENCE (R7). -/
def execFlSilence (s : State) : Host.Outcome State Fault Refusal :=
  runWhen s.lr.flSilence.due flSilent s

/-- RL_SILENCE (R8). -/
def execRlSilence (s : State) : Host.Outcome State Fault Refusal :=
  runWhen s.lr.rlSilence.due rlSilent s

end Sys2Proof.Machine
end

