-- ==== Sys2Proof/Machine/ServiceCommands.lean ====
section
/-! DEFINITION. The commands that are service requests (R175). -/

namespace Sys2Proof.Machine

/-- ENTER_MAINTENANCE (R183). -/
def execEnterMaintenance (src : Source) (tag : Byte) (s : State) : Host.Outcome State Fault Refusal :=
  request src tag .enterMaintenance s

/-- LEAVE_MAINTENANCE (R185). -/
def execLeaveMaintenance (src : Source) (tag : Byte) (s : State) : Host.Outcome State Fault Refusal :=
  request src tag .leaveMaintenance s

/-- STORE_TABLES (R187, R193). -/
def execStoreTables (src : Source) (tag : Byte) (s : State) : Host.Outcome State Fault Refusal :=
  request src tag .storeTables s

/-- RESTART (R188). -/
def execRestart (src : Source) (tag : Byte) (s : State) : Host.Outcome State Fault Refusal :=
  request src tag .restart s

/-- CHECK_PATH (R93). -/
def execCheckPath (src : Source) (tag : Byte) (s : State) : Host.Outcome State Fault Refusal :=
  request src tag .checkPath s

/-- LEARN_WHEEL (R116). -/
def execLearnWheel (src : Source) (tag : Byte) (position : Byte) (s : State) :
    Host.Outcome State Fault Refusal :=
  request src tag (.learnWheel position) s

/-- CANCEL_LEARN (R120). -/
def execCancelLearn (src : Source) (tag : Byte) (s : State) : Host.Outcome State Fault Refusal :=
  request src tag .cancelLearn s

/-- READ_NOTICE (R151). -/
def execReadNotice (src : Source) (tag : Byte) (kind : Byte) (s : State) : Host.Outcome State Fault Refusal :=
  request src tag (.readNotice kind) s

/-- CLEAR_NOTICE (R150). -/
def execClearNotice (src : Source) (tag : Byte) (kind : Byte) (s : State) :
    Host.Outcome State Fault Refusal :=
  request src tag (.clearNotice kind) s

/-- READ_SNAPSHOT (R158). -/
def execReadSnapshot (src : Source) (tag : Byte) (index : Byte) (s : State) :
    Host.Outcome State Fault Refusal :=
  request src tag (.readSnapshot index) s

/-- CLEAR_SNAPSHOTS (R158). -/
def execClearSnapshots (src : Source) (tag : Byte) (s : State) : Host.Outcome State Fault Refusal :=
  request src tag .clearSnapshots s

end Sys2Proof.Machine
end

