-- ==== Sys2Proof/Machine/Dispatch.lean ====
section
/-! DEFINITION. The meaning of every command: one arm per constructor, one direct call each. -/

namespace Sys2Proof.Machine

/-- What a command does to everything but the queue. -/
def exec (i : Instr) (s : State) : Host.Outcome State Fault Refusal :=
  match i with
  | .powerOn => Sys2Proof.Machine.execPowerOn s
  | .endOfStart supplyPin parkPin => Sys2Proof.Machine.execEndOfStart supplyPin parkPin s
  | .busOff port => Sys2Proof.Machine.execBusOff port s
  | .portOn port => Sys2Proof.Machine.execPortOn port s
  | .frameReceived port frame => Sys2Proof.Machine.execFrameReceived port frame s
  | .demand hdr data => Sys2Proof.Machine.execDemand hdr data s
  | .statusFromRear hdr data => Sys2Proof.Machine.execStatusFromRear hdr data s
  | .speedSample hdr data => Sys2Proof.Machine.execSpeedSample hdr data s
  | .bellowsSample hdr data => Sys2Proof.Machine.execBellowsSample hdr data s
  | .motionSample hdr data => Sys2Proof.Machine.execMotionSample hdr data s
  | .airSample hdr data => Sys2Proof.Machine.execAirSample hdr data s
  | .feedbackSample hdr data => Sys2Proof.Machine.execFeedbackSample hdr data s
  | .tyreReport hdr data => Sys2Proof.Machine.execTyreReport hdr data s
  | .manageRequestSegment src hdr data => Sys2Proof.Machine.execManageRequestSegment src hdr data s
  | .readItem src tag item index => Sys2Proof.Machine.execReadItem src tag item index s
  | .writeItem src tag item index value => Sys2Proof.Machine.execWriteItem src tag item index value s
  | .swapItem src tag item index expected new => Sys2Proof.Machine.execSwapItem src tag item index expected new s
  | .writeRouteUsedFlagItem src tag index value => Sys2Proof.Machine.execWriteRouteUsedFlagItem src tag index value s
  | .writeGroupsParameter src tag param index value => Sys2Proof.Machine.execWriteGroupsParameter src tag param index value s
  | .writeStabilityParameter src tag param index value => Sys2Proof.Machine.execWriteStabilityParameter src tag param index value s
  | .writeTyreSetting src tag setting index value => Sys2Proof.Machine.execWriteTyreSetting src tag setting index value s
  | .writeFilterSetting src tag setting index value => Sys2Proof.Machine.execWriteFilterSetting src tag setting index value s
  | .writeStatusInterval src tag interval index value => Sys2Proof.Machine.execWriteStatusInterval src tag interval index value s
  | .writeRearMatchSetting src tag setting index value => Sys2Proof.Machine.execWriteRearMatchSetting src tag setting index value s
  | .writeNoticeEnable src tag enable index value => Sys2Proof.Machine.execWriteNoticeEnable src tag enable index value s
  | .writeSnapshotSetting src tag setting index value => Sys2Proof.Machine.execWriteSnapshotSetting src tag setting index value s
  | .readEntryRoute src tag slot => Sys2Proof.Machine.execReadEntryRoute src tag slot s
  | .writeEntryRoute src tag fields => Sys2Proof.Machine.execWriteEntryRoute src tag fields s
  | .eraseEntryRoute src tag slot => Sys2Proof.Machine.execEraseEntryRoute src tag slot s
  | .readEntryGroup src tag index => Sys2Proof.Machine.execReadEntryGroup src tag index s
  | .writeEntryGroup src tag index fields => Sys2Proof.Machine.execWriteEntryGroup src tag index fields s
  | .eraseEntryGroup src tag index => Sys2Proof.Machine.execEraseEntryGroup src tag index s
  | .readEntryCurve src tag index => Sys2Proof.Machine.execReadEntryCurve src tag index s
  | .writeEntryCurve src tag index points => Sys2Proof.Machine.execWriteEntryCurve src tag index points s
  | .eraseEntryCurve src tag index => Sys2Proof.Machine.execEraseEntryCurve src tag index s
  | .readEntryWheel src tag index => Sys2Proof.Machine.execReadEntryWheel src tag index s
  | .writeEntryWheel src tag index fields => Sys2Proof.Machine.execWriteEntryWheel src tag index fields s
  | .eraseEntryWheel src tag index => Sys2Proof.Machine.execEraseEntryWheel src tag index s
  | .readEntryCritical src tag index => Sys2Proof.Machine.execReadEntryCritical src tag index s
  | .writeEntryCritical src tag index points => Sys2Proof.Machine.execWriteEntryCritical src tag index points s
  | .eraseEntryCritical src tag index => Sys2Proof.Machine.execEraseEntryCritical src tag index s
  | .readEntryStatusField src tag index => Sys2Proof.Machine.execReadEntryStatusField src tag index s
  | .writeEntryStatusField src tag index fields => Sys2Proof.Machine.execWriteEntryStatusField src tag index fields s
  | .eraseEntryStatusField src tag index => Sys2Proof.Machine.execEraseEntryStatusField src tag index s
  | .readEntryNotice src tag index => Sys2Proof.Machine.execReadEntryNotice src tag index s
  | .writeEntryNotice src tag index fields => Sys2Proof.Machine.execWriteEntryNotice src tag index fields s
  | .eraseEntryNotice src tag index => Sys2Proof.Machine.execEraseEntryNotice src tag index s
  | .enterMaintenance src tag => Sys2Proof.Machine.execEnterMaintenance src tag s
  | .leaveMaintenance src tag => Sys2Proof.Machine.execLeaveMaintenance src tag s
  | .storeTables src tag => Sys2Proof.Machine.execStoreTables src tag s
  | .restart src tag => Sys2Proof.Machine.execRestart src tag s
  | .checkPath src tag => Sys2Proof.Machine.execCheckPath src tag s
  | .learnWheel src tag position => Sys2Proof.Machine.execLearnWheel src tag position s
  | .cancelLearn src tag => Sys2Proof.Machine.execCancelLearn src tag s
  | .readNotice src tag kind => Sys2Proof.Machine.execReadNotice src tag kind s
  | .clearNotice src tag kind => Sys2Proof.Machine.execClearNotice src tag kind s
  | .readSnapshot src tag index => Sys2Proof.Machine.execReadSnapshot src tag index s
  | .clearSnapshots src tag => Sys2Proof.Machine.execClearSnapshots src tag s
  | .transmissionAttemptStart port => Sys2Proof.Machine.execTransmissionAttemptStart port s
  | .transmissionSucceeded port => Sys2Proof.Machine.execTransmissionSucceeded port s
  | .transmissionFailed port => Sys2Proof.Machine.execTransmissionFailed port s
  | .flSilence => Sys2Proof.Machine.execFlSilence s
  | .rlSilence => Sys2Proof.Machine.execRlSilence s
  | .staleTimerExpiry record => Sys2Proof.Machine.execStaleTimerExpiry record s
  | .stationaryTimerExpiry => Sys2Proof.Machine.execStationaryTimerExpiry s
  | .supplyAccepted level => Sys2Proof.Machine.execSupplyAccepted level s
  | .parkAccepted level => Sys2Proof.Machine.execParkAccepted level s
  | .demandTimeout => Sys2Proof.Machine.execDemandTimeout s
  | .refreshTimerExpiry channel => Sys2Proof.Machine.execRefreshTimerExpiry channel s
  | .deviationTimerExpiry channel => Sys2Proof.Machine.execDeviationTimerExpiry channel s
  | .stepTimerExpiry => Sys2Proof.Machine.execStepTimerExpiry s
  | .secondTick => Sys2Proof.Machine.execSecondTick s
  | .missingTimerExpiry wheel => Sys2Proof.Machine.execMissingTimerExpiry wheel s
  | .learnTimeout => Sys2Proof.Machine.execLearnTimeout s
  | .pulseTimerExpiry => Sys2Proof.Machine.execPulseTimerExpiry s
  | .testTimerExpiry => Sys2Proof.Machine.execTestTimerExpiry s
  | .minimumTimerExpiry => Sys2Proof.Machine.execMinimumTimerExpiry s
  | .releaseTimerExpiry => Sys2Proof.Machine.execReleaseTimerExpiry s
  | .statusMinimumTimerExpiry => Sys2Proof.Machine.execStatusMinimumTimerExpiry s
  | .statusPeriodicTimerExpiry => Sys2Proof.Machine.execStatusPeriodicTimerExpiry s
  | .assemblyTimerExpiry src => Sys2Proof.Machine.execAssemblyTimerExpiry src s
  | .restartTimerExpiry => Sys2Proof.Machine.execRestartTimerExpiry s
  | .storeWriteComplete => Sys2Proof.Machine.execStoreWriteComplete s
  | .storeWriteFailure => Sys2Proof.Machine.execStoreWriteFailure s
  | .storeTimeLimitExpiry => Sys2Proof.Machine.execStoreTimeLimitExpiry s
  | .inputFilterSample pin level => Sys2Proof.Machine.execInputFilterSample pin level s

end Sys2Proof.Machine
end

