-- ==== Sys2Proof/Machine/Step.lean ====
section
/-! DEFINITION. One step: the command at the front of the queue, or, on an empty queue, the part's own
clock (log 1). -/

namespace Sys2Proof.Machine

/-- The part with an empty queue: hand-offs left by an event are carried out (log 4), an expiry that is due
is taken, otherwise one millisecond passes (log 1). -/
def idle (s : State) : Host.Outcome State Fault Refusal :=
  if s.owed ≠ [] then run id s
  else
    match s.dueCommands with
    | [] => .next s.tick
    | c :: _ => exec c s

/-- Take the command at the front of the queue and run it with the queue's rest. -/
def step (s : State) : Host.Outcome State Fault Refusal :=
  match s.pending with
  | [] => idle s
  | c :: rest => exec c (s.setPending rest)

/-- The state with the command that a word spells at the front of its queue. -/
def State.withFetchWord (s : State) (nbits w : Nat) : State :=
  match decodeTableWord nbits w with
  | none => s
  | some c => s.setPending (c :: s.pending)

end Sys2Proof.Machine
end

