-- ==== Sys2Proof/Safety.lean ====
section
/-! DEFINITION. What a safe run of the block is, in the terms the statements use: the laws that the spec
says its units keep, the states in which a command takes its effect, and what a reply adds to a state. -/

namespace Sys2Proof.Machine

/-- The block goes on: its step answers a next state. No command of the spec stops the part (log 20). -/
def State.goesOn (s : State) : Prop := ∃ t, step s = .next t

/-- R18, R1: a queue holds at most 16 messages, one of them in transmission; an OFF port's is empty. -/
def PortRec.law (p : PortRec) : Bool :=
  decide (p.queue.length ≤ Config.queueCapacity) && decide ((p.queue.filter (·.sending)).length ≤ 1)
    && (p.on || p.queue.isEmpty)

/-- Every transmit queue keeps its law. -/
def State.queueLaw (s : State) : Bool := s.lr.ports.all PortRec.law

/-- R5, R47, R51: a known own position is 1 to 4, and it is unknown exactly while the link is NONE. -/
def State.positionLaw (s : State) : Prop :=
  (∀ p, s.lr.ownPos = some p → 1 ≤ p ∧ p ≤ 4) ∧ (s.lr.ownPos = none ↔ s.du.link = .noLink)

/-- The law of R16: what waits on RL carries hop equal to own position, and nothing waits there while it
is unknown or 4. -/
def State.rearLaw (s : State) : Prop :=
  (∀ p, s.lr.ownPos = some p → 1 ≤ p ∧ p ≤ 4)
    ∧ ∀ m ∈ (s.port .rl).queue, ∃ p, s.lr.ownPos = some p ∧ p ≠ 4 ∧ m.hdr.hop = BitVec.ofNat 3 p

/-- The law of R13: every valid entry is found by a lookup of its own key (so no two share a key). -/
def routeLaw (t : Bank RouteSlot 64) : Prop :=
  ∀ i, (t.read i).valid = true → lookupRoute t (t.read i).entry.key = some i

/-- The law of R99: no sensor ID appears in two wheel records. -/
def Tables.sensorLaw (t : Tables) : Prop :=
  ∀ p q id, (t.wheels.records.read p).sensorId = some id → (t.wheels.records.read q).sensorId = some id →
    p = q

/-- The law of R121: at most 8 candidates, no duplicate IDs, and no ID present in the Wheel Table. -/
def State.candidateLaw (s : State) : Prop :=
  s.tu.learn.candidates.length ≤ Config.candidateCapacity
    ∧ (s.tu.learn.candidates.map (·.sensorId)).Nodup
    ∧ ∀ e ∈ s.tu.learn.candidates, ∀ p, (s.wheelRec p).sensorId ≠ some e.sensorId

/-- R115, R2: the candidate list is empty after power-on and RESTART, and no report arrives in START. -/
def State.startLaw (s : State) : Prop := s.me.op = .start → s.tu.learn.candidates = []

/-- The law of R156, with the ranges of R155: at most 4 records, never more than the trigger count. -/
def NoticeUnit.snapshotLaw (nu : NoticeUnit) : Prop :=
  nu.snapshots.length ≤ Config.snapshotCapacity ∧ nu.snapshots.length ≤ nu.triggers ∧ nu.triggers ≤ 255

/-- The law of R153: LAMP is active exactly while a set notice flag has its lamp enable set. -/
def NoticeUnit.lampLaw (nu : NoticeUnit) : Prop := nu.lampOut = nu.lampDue

/-- The first half of the law of R142: a stability demand that is not 0 stands only on the test channel in
TESTING, or in INTERVENING or RELEASING. -/
def StabUnit.demandLaw (u : StabUnit) : Prop :=
  ∀ c, u.demand.read c ≠ 0 →
    (u.state = .testing ∧ u.testChannel = some c) ∨ u.state = .intervening ∨ u.state = .releasing

/-- The second half of the law of R142, over what SU has been handed: TESTING and INTERVENING occur only
with a PASSED path check, a GOOD lateral record, and brake mode NORMAL or FALLBACK. -/
def StabUnit.activeLaw (u : StabUnit) : Prop :=
  u.state = .testing ∨ u.state = .intervening →
    u.inputs.path = .passed ∧ u.inputs.lateral = .good
      ∧ (u.inputs.mode = .normal ∨ u.inputs.mode = .fallback)

/-- R34, R35: a bellows window holds up to 8 values, the lateral window up to 4. -/
def SampleIntake.windowLaw (si : SampleIntake) : Prop :=
  (∀ g, (si.bellows.read g).length ≤ 8) ∧ si.lateral.length ≤ 4

/-- The stored tables hold what the write rules take and nothing else (R62 to R64, R99, R101, R123, R124,
R160, R166). -/
def Tables.inRange (t : Tables) : Bool :=
  groupsTableOk t.groups && stabTableOk t.stability && wheelsTableOk t.wheels && statusTableOk t.status

/-- What only TS, a DEMAND, FL silence or the passing of time can change stays as it was. -/
structure State.SameGround (s t : State) : Prop where
  time : t.time = s.time
  ownPos : t.lr.ownPos = s.lr.ownPos
  link : t.du.link = s.du.link
  demand : t.du.lastDemand = s.du.lastDemand
  image : t.ts.image = s.ts.image
  generation : t.ts.generation = s.ts.generation
  waiting : t.pending = s.pending

/-- The ground stays, as do the Route Table, the RL queue, the records of SI and the rear match states,
which no request but one on routes changes. -/
structure State.SameBackground (s t : State) : Prop extends State.SameGround s t where
  routes : t.lr.routes = s.lr.routes
  rearQueue : t.port .rl = s.port .rl
  records : t.si.records = s.si.records
  rear : t.sc.rear = s.sc.rear

/-- No restart is pending (R188), and no event before left a hand-off to be carried out (log 4). -/
abbrev State.ready (s : State) : Prop := s.me.restartPending = false ∧ s.owed = []

/-- ME takes a request: START has ended, no restart is pending, and no long operation is in flight (R2,
R175, R188). -/
abbrev State.takesRequests (s : State) : Prop := s.me.op ≠ .start ∧ s.ready ∧ s.me.slot = none

/-- ME takes a reading request, a long operation in flight or not (R175). -/
abbrev State.takesReads (s : State) : Prop := s.me.op ≠ .start ∧ s.ready

/-- ME takes a request that needs maintenance. -/
abbrev State.takesWrites (s : State) : Prop := s.me.op = .maintenance ∧ s.ready ∧ s.me.slot = none

/-- The port is ON and its queue takes `n` more messages (R1, R21). -/
abbrev State.roomFor (s : State) (p : Port) (n : Nat) : Prop :=
  (s.port p).on = true ∧ (s.port p).queue.length + n ≤ Config.queueCapacity

/-- The segments of a reply (R176). -/
def State.replySegments (s : State) (code tag : Byte) (st : ReplyStatus) (results : List Byte) : List QMsg :=
  replyMsgs s false (replyGroup code tag st results)

/-- The state with a reply at the end of the queue of its source's port, and nothing else changed. -/
def State.replied (s : State) (src : Source) (code tag : Byte) (st : ReplyStatus) (results : List Byte) :
    State :=
  s.setPort (sourcePort src)
    { s.port (sourcePort src) with
      queue := (s.port (sourcePort src)).queue ++ s.replySegments code tag st results }

/-- There is room for a reply. -/
abbrev State.roomForReply (s : State) (src : Source) (code tag : Byte) (st : ReplyStatus)
    (results : List Byte) : Prop :=
  s.roomFor (sourcePort src) (s.replySegments code tag st results).length

/-- A request command is answered with a reply, and the reply is all that changes, when the queue of its
source has room for it (R175, R176). -/
abbrev State.answers (s : State) (c : Instr) (src : Source) (code tag : Byte) (st : ReplyStatus)
    (results : List Byte) : Prop :=
  s.roomForReply src code tag st results → exec c s = .next (s.replied src code tag st results)

/-- With room for the reply and for the other messages that the event may offer to that queue, every segment
of the reply stands in the queue of its source's port when the event is done (R176, R21). Those others are at
most the six MODULATOR COMMANDs on WB, and on FL the own STATUS and the NOTICEs the event can give rise to: a
WHEEL DETAIL, of lower priority, displaces no reply. -/
abbrev State.placesReply (s t : State) (src : Source) (code tag : Byte) (st : ReplyStatus)
    (results : List Byte) (others : Nat) : Prop :=
  s.roomFor (sourcePort src) ((s.replySegments code tag st results).length + others) →
    ∀ m ∈ s.replySegments code tag st results, m ∈ (t.port (sourcePort src)).queue

/-- No believed speed reaches the speed of MOVING: no GOOD wheel-speed record and no tractor speed of an
ACTIVE link is 200 or more (R36, R38). -/
abbrev State.slow (s : State) : Prop :=
  (∀ c, (s.record (.speed c)).state = .good →
      (((s.record (.speed c)).last.getD 0).toNat) < Config.movingSpeed)
    ∧ (s.du.link = .active → s.du.lastSpeed.getD 0 < Config.movingSpeed)

/-- Nothing forces an exit from maintenance (R186): the part is not in maintenance, or it stands slow with
PARK active. -/
abbrev State.calm (s : State) : Prop :=
  s.me.op ≠ .maintenance ∨ (s.slow ∧ s.si.motion ≠ .moving ∧ s.active .park = true)

/-- The place of a frame in the Route Table: the slot that its lookup hits (R11). -/
def State.hit (s : State) (p : Port) (f : Frame) : Option (Fin 64) :=
  lookupRoute s.lr.routes (frameKey p s.lr.ownPos f)

/-- A frame is received, hits a slot, and the slot's entry names a consumer (R2, R11, R12). -/
abbrev State.routesTo (s : State) (p : Port) (f : Frame) (c : Consumer) : Prop :=
  s.receives p = true ∧ ∃ i, s.hit p f = some i ∧ (s.lr.routes.read i).entry.consumer = c

/-- The state with a port's silence timer restarted by a frame received on it (R2, R7, R8). -/
def State.heard (s : State) (p : Port) : State := (restartSilence p (Work.begin s)).st

/-- The state with the used flag of a slot set (R11). -/
def State.usedAt (s : State) (i : Fin 64) : State := (setUsed i (Work.begin s)).st

/-- The state with a message as the youngest of a port's queue, and nothing else changed. -/
def State.appended (s : State) (p : Port) (m : QMsg) : State :=
  s.setPort p { s.port p with queue := (s.port p).queue ++ [m] }

/-- The count of a notice kind (R146). -/
abbrev State.occurrences (s : State) (k : NoticeKind) : Nat := (s.nu.notice k).count

/-- Between `s` and `t` a kind has occurred once more, last with a detail at the time count of `s` (R147). -/
abbrev State.raised (s t : State) (k : NoticeKind) (detail : Nat) : Prop :=
  t.occurrences k = min (s.occurrences k + 1) 65535
    ∧ (t.nu.notice k).latest = some { detail := BitVec.ofNat 16 detail, time := s.time }

/-- DU has judged the emergency (R54 to R56): cause, flag and condition are those of the causes present, and
EMERGENCY has occurred exactly when emergency has turned on. -/
abbrev State.emergencyFollows (s t : State) : Prop :=
  t.du.cause = t.causeNow ∧ (t.du.emergency = true ↔ t.causeNow ≠ .noCause)
    ∧ (t.nu.notice .emergency).present = t.du.emergency
    ∧ (s.du.emergency = false → t.du.emergency = true → s.raised t .emergency t.du.cause.code)
    ∧ (s.du.emergency = true ∨ t.du.emergency = false → t.occurrences .emergency = s.occurrences .emergency)

/-- The kinds a consumer takes, and from which port (R12). -/
def Consumer.takes : Consumer → Port → BitVec 5 → Bool
  | .noUnit, _, _ => false
  | .du, p, k => p == .fl && k == kDemand
  | .si, p, k => p == .wb && [kSpeed, kBellows, kMotion, kAir, kFeedback].contains k
  | .tu, p, k => p == .wb && k == kTyre
  | .sc, p, k => p == .rl && k == kStatus
  | .me, p, k => (p == .fl || p == .wb) && k == kManageRequest

/-- The brake mode is the one that R58 derives from the operating state, the emergency and the link. -/
abbrev State.modeLaw (s : State) : Prop := s.du.mode = s.modeNow

/-- D is the one that R52 derives: the last valid demand while the link is ACTIVE, otherwise the control line
while its record is GOOD, and 0. -/
abbrev State.effectLaw (s : State) : Prop :=
  s.du.inEffect =
    if s.du.link = .active then s.du.lastDemand.getD 0
    else if (s.record .controlLine).state = .good then ((s.record .controlLine).last.getD 0).toNat else 0

/-- LU's record of a group as R65 and R66 define it from what stands: computed while the group is configured,
set as unconfigured otherwise. -/
def State.groupNow (s : State) (g : Fin 3) : GroupRun :=
  if (s.groupRec g).configured then s.computed g
  else (s.lu.read g).unconfigured s.groupsInForce.fallbackRatio

/-- The records of LU are as R65 and R66 give them from what stands, and the conditions of R69 and R72 are
present as they say. In START nothing is computed. -/
structure State.loadsCurrent (s : State) : Prop where
  groups : s.du.mode ≠ .start → ∀ g, s.lu.read g = s.groupNow g
  overload : s.du.mode ≠ .start →
    ((s.nu.notice .overload).present = true ↔ ∃ g, (s.lu.read g).overload = true)
  fallback : s.du.mode ≠ .start →
    ((s.nu.notice .loadFallback).present = true ↔
      ∃ g, (s.lu.read g).cause = .sectionInvalid ∨ (s.lu.read g).cause = .noCurve
        ∨ (s.lu.read g).cause = .sensorSuspect)

/-- The targets are as R80, R82, R85, R94 and R95 say: merged for a configured channel, the check pressure of
its step for the channel under test, 0 for an unconfigured one and in START. -/
structure State.targetsCurrent (s : State) : Prop where
  configured : ∀ c, (s.channel c).configured = (s.groupRec (groupOf c)).configured
  resting : ∀ c, (s.channel c).configured = false → (s.channel c).target = 0
  starting : s.du.mode = .start → s.bt.check.under = none ∧ ∀ c, (s.channel c).target = 0
  merged : s.du.mode ≠ .start → ∀ c, (s.channel c).configured = true → s.bt.check.under ≠ some c →
    (s.channel c).target = s.merged c
  tested : ∀ c, s.bt.check.under = some c → s.bt.check.overall = .running
    ∧ (s.channel c).configured = true
    ∧ ((s.bt.check.step = some .rise ∧ (s.channel c).target = min 100 s.limit)
        ∨ (s.bt.check.step = some .fall ∧ (s.channel c).target = 0))

/-- Every MODULATOR COMMAND that stands in the WB queue after some work, and stood not there before, carries
a value no greater than the limit (R86). -/
def Work.commandsWithin (before after : Work) : Prop :=
  ∀ m ∈ (after.st.port .wb).queue, m.kind = kModulator →
    m ∈ (before.st.port .wb).queue ∨ ∃ v, v ≤ after.st.limit ∧ m.data = natHalf v

/-- SU's copies, and SI's copy of the test channel, hold what their owners hold (R126, R135). -/
structure State.copiesCurrent (s : State) : Prop where
  ay : s.su.inputs.ay = s.filteredLateral
  lateral : s.su.inputs.lateral = (s.record .lateral).state
  vref : s.su.inputs.vref = s.si.vref
  wheel : ∀ c, s.su.inputs.wheel.read c = (s.record (.speed c)).state
  speeds : ∀ c, (s.record (.speed c)).state = .good →
    s.su.inputs.speeds.read c = some ((s.record (.speed c)).last.getD 0).toNat
  loads : s.du.mode ≠ .start → ∀ g, s.su.inputs.loads.read g =
    { load := (s.lu.read g).load, rated := (s.groupRec g).rated, quality := (s.lu.read g).quality }
  starting : s.du.mode = .start → s.su.fraction = 1024 ∧ ∀ g, (s.su.inputs.loads.read g).quality = .fallback
  deflated : ∀ g, s.su.inputs.deflated.read g = s.tu.deflated.read g
  low : ∀ g, s.su.inputs.low.read g = s.tu.low.read g
  fault : ∀ c, s.su.inputs.fault.read c = (s.channel c).fault
  configured : ∀ c, s.su.inputs.configured.read c = (s.channel c).configured
  path : s.su.inputs.path = s.bt.check.overall
  mode : s.su.inputs.mode = s.du.mode
  test : s.si.testChannel = s.su.testChannel

/-- SC's copies and live values are those of their owners (R159). -/
structure State.liveCurrent (s : State) : Prop where
  targets : s.sc.targets = s.targets
  loads : ∀ g, s.sc.loads.read g = (s.lu.read g).load
  qualities : ∀ g, s.sc.qualities.read g = (s.lu.read g).quality
  share : s.sc.fraction = s.su.fraction
  mode : s.sc.live.read 0 = s.du.mode.code
  link : s.sc.live.read 1 = s.du.link.code
  stability : s.sc.live.read 2 = s.su.state.code
  worst : s.sc.live.read 3 = s.tu.worst.code
  lamp : s.sc.live.read 4 = bit s.nu.lampOut
  rear : s.sc.live.read 5 = rearAlert s.sc.rear
  highest : s.sc.live.read 6 = (s.targets.cells.foldl max 0) / 5
  load : s.sc.live.read 7 = combinationLoad s.sc.loads s.sc.qualities
  fraction : s.sc.live.read 8 = min (s.su.fraction / 4) 255
  checks : s.sc.live.read 9 = s.bt.check.overall.code * 4 + s.ts.check.code
  classes : s.sc.live.read 10 = s.nu.classMask
  position : s.sc.live.read 11 = s.lr.ownPos.getD 0

/-- An event kind has no condition to hold: its record reads it as no (R149). -/
def NoticeUnit.presentLaw (nu : NoticeUnit) : Prop :=
  ∀ k, k.isCondition = false → (nu.notice k).present = false

/-- An item without a family reads a value at index 0 and is BAD_PARAM at every other (R177, R178). -/
def State.readsOne (s : State) (item : Nat) (v : Option Int) : Prop :=
  ∀ i, readItemAt s item i = if i = 0 then .value v else .badIndex

/-- An item of a family reads its members from index 1 on and is BAD_PARAM outside them (R177, R178). -/
def State.readsEach {n : Nat} (s : State) (item : Nat) (v : Fin n → Option Int) : Prop :=
  (∀ k : Fin n, readItemAt s item (k.val + 1) = .value (v k))
    ∧ ∀ i, i = 0 ∨ n < i → readItemAt s item i = .badIndex

/-- The command is a frame received on RL or WB, which a route may forward toward FL (R12, R17). -/
def mayForwardAhead : Instr → Bool
  | .frameReceived p _ => p != .fl
  | .manageRequestSegment src _ _ => src == .wb
  | .statusFromRear _ _ | .speedSample _ _ | .bellowsSample _ _ | .motionSample _ _ | .airSample _ _
  | .feedbackSample _ _ | .tyreReport _ _ => true
  | _ => false

/-- SU after steps 1 and 2 of an event (R131): the value taken into its copy, and the margin recomputed. -/
def State.afterTaking (s : State) (e : SuEvent) : State :=
  s.setSu ((s.su.take s.stabInForce e).recomputed s.stabInForce)

/-- SU holds what its copies give and has derived every demand; only its timers are open. -/
abbrev State.stabSteady (s : State) : Prop :=
  s.su.recomputed s.stabInForce = s.su ∧ (∀ c, s.su.demand.read c = s.demandOf c)
    ∧ (s.nu.notice .stabilityInactiveFault).present = s.inactiveFault

/-- The fields of a WRITE ENTRY that pack a group record (R195, R199). -/
def GroupRec.packed (r : GroupRec) : GroupFields :=
  { configured := byteOf (bit r.configured), rated := BitVec.ofNat 16 r.rated,
    emptyKnee := BitVec.ofNat 16 r.emptyKnee, ladenKnee := BitVec.ofNat 16 r.ladenKnee,
    emptyRatio := BitVec.ofNat 16 r.emptyRatio, threshold := byteOf r.threshold,
    capPresent := byteOf (bit r.cap.isSome), cap := BitVec.ofNat 16 (r.cap.getD 0) }

/-- The fields of a WRITE ENTRY that pack a wheel record (R195, R199). -/
def WheelRec.packed (r : WheelRec) : WheelFields :=
  { configured := byteOf (bit r.configured), group := byteOf (r.group.val + 1), axle := byteOf r.axle,
    side := byteOf r.side.code, placement := byteOf r.placing.code,
    idPresent := byteOf (bit r.sensorId.isSome), sensorId := r.sensorId.getD 0,
    nominal := BitVec.ofNat 16 r.nominal }

/-- The fields of a WRITE ENTRY that pack a route entry (R13, R199). -/
def RouteEntry.packed (e : RouteEntry) : RouteFields :=
  { port := byteOf (portCode e.key.port), kind := byteOf e.key.kind.toNat,
    relation := byteOf e.key.relation.code, consumer := byteOf e.consumer.code,
    forward := byteOf (bit e.toFL + 2 * bit e.toRL) }

/-- A list of points as a WRITE ENTRY packs it (R195). -/
def packedPoints (ps : List (Nat × Nat)) : List (Half × Half) :=
  ps.map fun p => (BitVec.ofNat 16 p.1, BitVec.ofNat 16 p.2)

/-- The number of a one-based entry as its index byte. -/
def entryByte {n : Nat} (i : Fin n) : Byte := byteOf (i.val + 1)

/-- The values of the test group order that R200 lists: one, two or three brake groups, none twice. -/
def orderValues : List Nat :=
  [0x1001, 0x1002, 0x1003, 0x2012, 0x2013, 0x2021, 0x2023, 0x2031, 0x2032, 0x3123, 0x3132, 0x3213, 0x3231,
   0x3312, 0x3321]

/-- The stored items of R177 and the values that the rules owning them take (R64, R101, R123, R166, R167,
R42), the tables standing as they do; none for a number that is no stored item. -/
def Tables.itemTakes (t : Tables) (item v : Nat) : Option Bool :=
  match item with
  | 0x100 => some (within 0 1024 v)
  | 0x101 => some (within 300 1000 v)
  | 0x110 => some (within 0 1 v)
  | 0x111 => some (within 1000 6000 v)
  | 0x112 => some (within 50 500 v)
  | 0x113 => some (within 30 400 v)
  | 0x114 => some (within 0 300 v)
  | 0x115 => some (within 10 100 v)
  | 0x116 => some (within 20 150 v)
  | 0x117 => some (within 50 500 v)
  | 0x118 => some (within 200 5000 v)
  | 0x119 => some (within 100 600 v)
  | 0x11A => some (within 50 400 v)
  | 0x11B => some (within 5 100 v)
  | 0x11C => some (within 200 1000 v)
  | 0x11D => some (within 5 100 v)
  | 0x11E => some (within 100 2000 v)
  | 0x11F => some (within 0 200 v)
  | 0x120 => some (within 0 300 v)
  | 0x121 => some (orderValues.contains v)
  | 0x130 => some (within 500 980 v && decide (t.wheels.qDefl < v))
  | 0x131 => some (within 300 900 v && decide (v < t.wheels.qLow))
  | 0x132 => some (within 1050 1500 v)
  | 0x133 => some (within 5 200 v)
  | 0x134 => some (within 60 3600 v && v % 10 == 0)
  | 0x140 | 0x142 => some (within 0 3 v)
  | 0x141 | 0x143 => some (within 0 1 v)
  | 0x150 => some (within 20 500 v)
  | 0x151 => some (v == 0 || within 100 5000 v)
  | 0x152 | 0x153 => some (within 0 65535 v)
  | _ => none

/-- The command writes an item: its source, its tag, the item's number, the index and the value, as the
rows of the table name them. -/
def itemWrite : Instr → Option (Source × Byte × Half × Byte × Word)
  | .writeItem src tag item i v => some (src, tag, item, i, v)
  | .writeRouteUsedFlagItem src tag i v => some (src, tag, 0x220, i, v)
  | .writeGroupsParameter src tag x i v => some (src, tag, groupsItem x, i, v)
  | .writeStabilityParameter src tag x i v => some (src, tag, stabParamItem x, i, v)
  | .writeTyreSetting src tag x i v => some (src, tag, tyreSettingItem x, i, v)
  | .writeFilterSetting src tag x i v => some (src, tag, filterItemNumber x, i, v)
  | .writeStatusInterval src tag x i v => some (src, tag, intervalItemNumber x, i, v)
  | .writeRearMatchSetting src tag x i v => some (src, tag, rearItemNumber x, i, v)
  | .writeNoticeEnable src tag x i v => some (src, tag, enableItemNumber x, i, v)
  | .writeSnapshotSetting src tag x i v => some (src, tag, snapItemNumber x, i, v)
  | _ => none

/-- The command reads an entry: its source, its tag, the table's number and the index byte. -/
def entryRead : Instr → Option (Source × Byte × Byte × Byte)
  | .readEntryRoute src tag i => some (src, tag, 1, i)
  | .readEntryGroup src tag i => some (src, tag, 2, i)
  | .readEntryCurve src tag i => some (src, tag, 3, i)
  | .readEntryWheel src tag i => some (src, tag, 4, i)
  | .readEntryCritical src tag i => some (src, tag, 5, i)
  | .readEntryStatusField src tag i => some (src, tag, 6, i)
  | .readEntryNotice src tag i => some (src, tag, 7, i)
  | _ => none

/-- The five sample commands: the kind, the identifier fields and the data of the frame (R3, R25). -/
def sampleFrame : Instr → Option Frame
  | .speedSample h d => some { kind := kSpeed, hdr := h, data := d }
  | .bellowsSample h d => some { kind := kBellows, hdr := h, data := d }
  | .motionSample h d => some { kind := kMotion, hdr := h, data := d }
  | .airSample h d => some { kind := kAir, hdr := h, data := d }
  | .feedbackSample h d => some { kind := kFeedback, hdr := h, data := d }
  | _ => none

/-- A sample is plausible: its sensor-valid flag is set, its value is in range, and for the lateral record
the repeat count has not reached the limit of a stuck sensor (R28 to R31). -/
def State.plausible (s : State) (q : Quantity) (valid : Bool) (raw : Int) : Bool :=
  valid && decide (q.low ≤ raw) && decide (raw ≤ q.high)
    && (decide (q ≠ .lateral) || decide (repeatAfter s.si raw < Config.stuckCount))

/-- The command is a write, an erase or a service request that R175 holds up, with its source, code and
tag. -/
def heldRequest : Instr → Option (Source × Byte × Byte)
  | .writeItem src tag _ _ _ | .writeRouteUsedFlagItem src tag _ _ | .writeGroupsParameter src tag _ _ _
  | .writeStabilityParameter src tag _ _ _ | .writeTyreSetting src tag _ _ _
  | .writeFilterSetting src tag _ _ _ | .writeStatusInterval src tag _ _ _
  | .writeRearMatchSetting src tag _ _ _ | .writeNoticeEnable src tag _ _ _
  | .writeSnapshotSetting src tag _ _ _ => some (src, 0x02, tag)
  | .swapItem src tag _ _ _ _ => some (src, 0x03, tag)
  | .writeEntryRoute src tag _ | .writeEntryGroup src tag _ _ | .writeEntryCurve src tag _ _
  | .writeEntryWheel src tag _ _ | .writeEntryCritical src tag _ _ | .writeEntryStatusField src tag _ _
  | .writeEntryNotice src tag _ _ => some (src, 0x05, tag)
  | .eraseEntryRoute src tag _ | .eraseEntryGroup src tag _ | .eraseEntryCurve src tag _
  | .eraseEntryWheel src tag _ | .eraseEntryCritical src tag _ | .eraseEntryStatusField src tag _
  | .eraseEntryNotice src tag _ => some (src, 0x06, tag)
  | .enterMaintenance src tag => some (src, 0x10, tag)
  | .leaveMaintenance src tag => some (src, 0x11, tag)
  | .storeTables src tag => some (src, 0x12, tag)
  | .restart src tag => some (src, 0x13, tag)
  | .checkPath src tag => some (src, 0x20, tag)
  | .learnWheel src tag _ => some (src, 0x21, tag)
  | .cancelLearn src tag => some (src, 0x22, tag)
  | .clearNotice src tag _ => some (src, 0x31, tag)
  | .clearSnapshots src tag => some (src, 0x33, tag)
  | _ => none

/-- The command is a request, one that R175 holds up or one of the reading ones. -/
def isRequest (c : Instr) : Bool :=
  (heldRequest c).isSome || (entryRead c).isSome
    || match c with
      | .readItem _ _ _ _ | .readNotice _ _ _ | .readSnapshot _ _ _ => true
      | _ => false

/-- Of those that R175 holds up, the ones that are taken in maintenance only (R181, R185, R187, R188, R116). -/
def needsMaintenance : Instr → Bool
  | .writeGroupsParameter _ _ _ _ _ | .writeStabilityParameter _ _ _ _ _ | .writeTyreSetting _ _ _ _ _
  | .writeFilterSetting _ _ _ _ _ | .writeStatusInterval _ _ _ _ _ | .writeRearMatchSetting _ _ _ _ _
  | .writeEntryRoute _ _ _ | .writeEntryGroup _ _ _ _ | .writeEntryCurve _ _ _ _
  | .writeEntryWheel _ _ _ _ | .writeEntryCritical _ _ _ _ | .writeEntryStatusField _ _ _ _
  | .writeEntryNotice _ _ _ _ | .eraseEntryRoute _ _ _ | .eraseEntryGroup _ _ _ | .eraseEntryCurve _ _ _
  | .eraseEntryWheel _ _ _ | .eraseEntryCritical _ _ _ | .eraseEntryStatusField _ _ _
  | .eraseEntryNotice _ _ _ | .leaveMaintenance _ _ | .storeTables _ _ | .restart _ _
  | .learnWheel _ _ _ => true
  | _ => false

end Sys2Proof.Machine
end

