-- ==== Sys2Proof/Certificates/Slice0/Obligations.lean ====
section
/-! DEFINITION. The statements for the provers, in the order of the spec's chapters. Where one rests on a
choice of the model, its docstring names the log entry. -/

open Sys2Proof Sys2Proof.Machine

/-! ### The step, power-on and start -/

/-- The command at the front of the queue is run with the queue's rest. -/
def Obligations.StepRunsFront : Prop :=
  ∀ (c : Instr) (s : State) (rest : List Instr), s.pending = c :: rest → step s = exec c (s.setPending rest)

/-- The part with an empty queue and no hand-off left to carry out (logs 1 and 4, the model's choice): the
first of the expiries that are due is taken; otherwise one millisecond passes, which counts the time and
every running timer down by one, in every unit, makes the tick of a whole second due outside START (R108),
and changes nothing else. The expiries that are due are those of the timers that stand at 0, the tick that
waits and the filter samples whose time has come, each with the level of its pin, and no other command; the
end of START falls at 50 ms (log 10). -/
def Obligations.IdleStepKeepsTime : Prop :=
  (∀ s : State, s.pending = [] → s.owed = [] →
    (∀ c cs, s.dueCommands = c :: cs → step s = exec c s) ∧
    (s.dueCommands = [] →
      let down (x : Timer) : Timer := match x with | .running n => .running (n - 1) | y => y
      let input (x : InputRec) : InputRec := { x with sampler := down x.sampler }
      let buffer (x : Option Assembly) : Option Assembly := x.map fun a => { a with timer := down a.timer }
      ∃ t, step s = .next t ∧ t.time = s.time + 1
        ∧ t.lr.flSilence = down s.lr.flSilence ∧ t.lr.rlSilence = down s.lr.rlSilence
        ∧ (∀ p, t.port p = { s.port p with offTimer := down (s.port p).offTimer })
        ∧ t.lr.routes = s.lr.routes ∧ t.lr.ownPos = s.lr.ownPos
        ∧ (∀ r, t.si.records.read r = { s.si.records.read r with stale := down (s.si.records.read r).stale })
        ∧ t.si = { s.si with
            records := t.si.records, stationary := down s.si.stationary
            supply := input s.si.supply, park := input s.si.park }
        ∧ t.du = { s.du with timeout := down s.du.timeout } ∧ t.lu = s.lu
        ∧ (∀ c, t.channel c = { s.channel c with
            refresh := down (s.channel c).refresh, deviation := down (s.channel c).deviation })
        ∧ t.bt.check = { s.bt.check with stepTimer := down s.bt.check.stepTimer }
        ∧ t.tu = { s.tu with
            tickDue := s.tu.tickDue || (s.me.op != .start && (s.time + 1).toNat % 1000 == 0)
            learn := { s.tu.learn with timeout := down s.tu.learn.timeout } }
        ∧ t.su = { s.su with
            pulseTimer := down s.su.pulseTimer, testTimer := down s.su.testTimer
            minTimer := down s.su.minTimer, releaseTimer := down s.su.releaseTimer }
        ∧ t.nu = s.nu ∧ t.sc = { s.sc with minTimer := down s.sc.minTimer, periodic := down s.sc.periodic }
        ∧ t.me = { s.me with
            bufferFl := buffer s.me.bufferFl, bufferWb := buffer s.me.bufferWb
            restartTimer := down s.me.restartTimer }
        ∧ t.ts = { s.ts with limit := down s.ts.limit, startTimer := down s.ts.startTimer }
        ∧ t.tables = s.tables ∧ t.pending = [] ∧ t.owed = [])) ∧
  (∀ (s : State) (c : Instr), c ∈ s.dueCommands ↔
    match c with
    | .endOfStart a b => s.ts.startTimer = .running 0 ∧ a = s.si.supply.pin ∧ b = s.si.park.pin
    | .portOn p => (s.port p).offTimer = .running 0
    | .flSilence => s.lr.flSilence = .running 0
    | .rlSilence => s.lr.rlSilence = .running 0
    | .staleTimerExpiry r => (s.si.records.read r).stale = .running 0
    | .stationaryTimerExpiry => s.si.stationary = .running 0
    | .inputFilterSample p l => (s.input p).sampler = .running 0 ∧ l = (s.input p).pin
    | .demandTimeout => s.du.timeout = .running 0
    | .deviationTimerExpiry d => (s.channel d).deviation = .running 0
    | .stepTimerExpiry => s.bt.check.stepTimer = .running 0
    | .secondTick => s.tu.tickDue = true
    | .missingTimerExpiry p => (s.wheel p).missing = some 0
    | .learnTimeout => s.tu.learn.timeout = .running 0
    | .pulseTimerExpiry => s.su.pulseTimer = .running 0
    | .testTimerExpiry => s.su.testTimer = .running 0
    | .minimumTimerExpiry => s.su.minTimer = .running 0
    | .releaseTimerExpiry => s.su.releaseTimer = .running 0
    | .refreshTimerExpiry d => (s.channel d).refresh = .running 0
    | .statusMinimumTimerExpiry => s.sc.minTimer = .running 0
    | .statusPeriodicTimerExpiry => s.sc.periodic = .running 0
    | .assemblyTimerExpiry src => ∃ a, s.me.buffer src = some a ∧ a.timer = .running 0
    | .restartTimerExpiry => s.me.restartPending = true ∧ s.me.restartTimer = .running 0
    | .storeTimeLimitExpiry => s.ts.limit = .running 0
    | _ => False)

/-- No command stops the part (log 20: the spec names faults that the part reports, none at which it
stops), and none but the step takes a command from the queue. The queue is the model's own: that POWER_ON
and RESTART too leave it as it is, is the model's choice (log 24). -/
def Obligations.EveryCommandGoesOn : Prop :=
  (∀ (c : Instr) (s : State), ∃ t, exec c s = .next t ∧ t.pending = s.pending) ∧ ∀ s : State, s.goesOn

/-- POWER_ON (R189, R190, R194 with R1, R5, R27, R36, R38, R41, R46, R65, R79, R90, R102, R112, R115, R126,
R146, R152, R153, R155, R171, R172): every field of every unit at its value after power-on, every section
at its defaults and invalid, the pins as they stand, the image as it was, but for a part being written,
whose CRC is left wrong (R194). That such a part keeps its content, and so the image its generation, routes
and tables, is the model's choice (log 6); so is that commands still wait in the queue (log 24), that the
CAN error counts of a port begin at 0 (log 9), that START runs its whole 50 ms with the load still to come
(log 10), and that SU begins with no wheel speed (log 35). The state after reset is the state that POWER_ON
gives the fresh part (logs 5, 7: its blank image and its pin levels are the model's choice). -/
def Obligations.PowerOnStartsEveryUnit : Prop :=
  (∀ s : State, ∃ t, exec .powerOn s = .next t
    ∧ t.time = 0 ∧ t.pending = s.pending ∧ t.owed = [] ∧ t.tables = .defaults
    ∧ t.lr = {
        ownPos := none, flSilence := .stopped, rlSilence := .stopped, routes := builtInTable
        ports := Bank.fill 3 { on := true, offTimer := .stopped, txErrors := 0, rxErrors := 0, queue := [] } }
    ∧ (let input (pin : Level) : InputRec :=
         { pin := pin, accepted := none, previous := none, sampler := .stopped }
       t.si = {
        records := Bank.fill 18 { last := none, arrival := none, state := .unknown, run := 0, stale := .stopped }
        repeatCount := 0, bellows := Bank.fill 3 [], lateral := [], vref := 0, vrefQuality := .noSpeed
        testChannel := none, motion := .undetermined, stationary := .stopped
        supply := input s.si.supply.pin, park := input s.si.park.pin })
    ∧ t.du = {
        link := .noLink, lastCounter := none, lastDemand := none, lastSpeed := none, chainFlag := false
        parkFlag := false, timeout := .stopped, recovery := 0, inEffect := 0, emergency := false
        cause := .noCause, mode := .start }
    ∧ t.lu = Bank.fill 3 {
        bellows := none, quality := .fallback, cause := .sensorUnknown, load := none, fraction := none
        ratio := 1024, overload := false, service := 0 }
    ∧ t.bt = {
        channels := Bank.fill 6 {
          configured := true, target := 0, lastCommanded := none, refresh := .stopped, feedback := none
          deviation := .stopped, fault := false, result := .notRun }
        check := {
          overall := .notRun, under := none, step := none, stepTimer := .stopped, requestPending := false } }
    ∧ t.tu = {
        wheels := Bank.fill 24 {
          state := .unlearned, leak := false, pressure := none, temperature := none, time := none
          lowBattery := false, missing := none }
        deflated := Bank.fill 3 false, low := Bank.fill 3 false, worst := .normal, tickDue := false
        justLoaded := Bank.fill 24 false
        learn := {
          state := .idle, position := none, outcome := .noOutcome, timeout := .stopped, candidates := [] } }
    ∧ t.su = {
        state := .inactive, fraction := 1024, critical := none, derate := 0, threshold := none, margin := none
        testChannel := none, pulseTimer := .stopped, testTimer := .stopped, unavailable := false, level := 0
        minTimer := .stopped, releaseTimer := .stopped, demand := Bank.fill 6 0
        inputs := {
          ay := none, lateral := .unknown, vref := 0
          loads := Bank.fill 3 { load := none, rated := 100, quality := .fallback }
          deflated := Bank.fill 3 false, low := Bank.fill 3 false, wheel := Bank.fill 6 .unknown
          speeds := Bank.fill 6 none, fault := Bank.fill 6 false, configured := Bank.fill 6 true
          path := .notRun, mode := .start } }
    ∧ (∀ k, t.nu.notice k = {
        flag := false, count := 0, first := none, latest := none, present := false, message := true
        lamp := k.defaultLamp })
    ∧ t.nu.lampOut = false ∧ t.nu.snapshots = [] ∧ t.nu.triggers = 0 ∧ t.nu.mode = .keepFirst
    ∧ t.nu.maskIntervention = true ∧ t.nu.maskEmergency = true ∧ t.nu.maskDemandLost = false
    ∧ t.sc = {
        live := (Bank.fill 12 0).write 8 255, targets := Bank.fill 6 0, loads := Bank.fill 3 none
        qualities := Bank.fill 3 .fallback, fraction := 1024, overridden := Bank.fill 12 false
        lastSent := Bank.fill 12 0, minTimer := .stopped, pendingNews := false, periodic := .stopped
        rear := Bank.fill 3 false, sending := false }
    ∧ t.me = {
        op := .start, bufferFl := none, bufferWb := none, slot := none, restartPending := false
        restartTimer := .stopped }
    ∧ t.ts = {
        validity := Bank.fill 7 false, generation := 0, check := .notRun, writing := none, limit := .stopped
        startTimer := .running 50, image := t.ts.image }
    ∧ (s.ts.writing = none → t.ts.image = s.ts.image)
    ∧ t.ts.image.generation = s.ts.image.generation ∧ t.ts.image.routes = s.ts.image.routes
    ∧ t.ts.image.tables = s.ts.image.tables
    ∧ (∀ x, t.ts.image.good x = (s.ts.image.good x && decide (s.ts.writing ≠ some x.index.castSucc)))
    ∧ t.ts.image.headerGood = (s.ts.image.headerGood && decide (s.ts.writing ≠ some 7))) ∧
  (exec .powerOn State.reset = .next State.reset)

/-- END_OF_START (R190, R15, R189, R192, R2, R38, R39, R41, R85, R102, R162): the image is loaded, each
section its stored content and valid when its CRC is right and its content passes the checks of the write
rules (the order and the widths of the bytes under a CRC: log 6), otherwise its defaults and invalid; what
is loaded is in range, every stored item at a value that its rule takes. A loaded ROUTE section gives a
table that holds its entries and no other. The generation is the stored one when the header's CRC is right,
otherwise 0; the table check is PASSED exactly when every section is valid. The operating state becomes
RUN, the silence timers of FL and RL start at 500 ms, each pin's level is accepted and its sampler started
at the filter period in force, the configured fields and the notice enables are those in force, and the
missing timers of configured records with a sensor ID are loaded. From units as START leaves them, v_ref 0
starts the stationary timer, every configured channel is offered its target and its refresh timer started,
SC's periodic timer starts and, with FL empty and the change flag of F1 in force, the first STATUS is
offered, F1 in it the new brake mode. That the mode reaches SC before it begins to send (log 3) and that
all of the load falls at this one event (log 10) is the model's choice. -/
def Obligations.EndOfStartEntersRun : Prop :=
  ∀ (s : State) (a b : Level), s.me.op = .start → s.ready →
    ∃ t, exec (.endOfStart a b) s = .next t
      ∧ t.me.op = .run ∧ t.lr.flSilence = .running 500 ∧ t.lr.rlSilence = .running 500
      ∧ (let sampled (pin : Level) (x : FilterSetting) : InputRec :=
           { pin := pin, accepted := some pin
             previous := if x = .unfiltered then none else some pin
             sampler := match x with
               | .unfiltered => .stopped | .ms8 => .running 8 | .ms32 => .running 32
               | .ms128 => .running 128 }
         t.si.supply = sampled a t.filtersInForce.supply.filter
           ∧ t.si.park = sampled b t.filtersInForce.park.filter)
      ∧ (let im := s.ts.image
         let crcRight (x : Sect) : Prop := im.crcs.read x.index = crc16 (im.sectionBytes x)
         (t.valid .route = true ↔ crcRight .route ∧ (∀ e ∈ im.routes, routeEntryOk e = true)
             ∧ (rebuildRoutes im.routes).isSome = true)
           ∧ (t.valid .groups = true ↔ crcRight .groups ∧ groupsTableOk im.tables.groups = true)
           ∧ (t.valid .stability = true ↔ crcRight .stability ∧ stabTableOk im.tables.stability = true)
           ∧ (t.valid .wheels = true ↔ crcRight .wheels ∧ wheelsTableOk im.tables.wheels = true)
           ∧ (t.valid .status = true ↔ crcRight .status ∧ statusTableOk im.tables.status = true)
           ∧ (t.valid .notice = true ↔ crcRight .notice) ∧ (t.valid .filters = true ↔ crcRight .filters)
           ∧ t.tables = {
               groups := if t.valid .groups then im.tables.groups else .defaults
               stability := if t.valid .stability then im.tables.stability else .defaults
               wheels := if t.valid .wheels then im.tables.wheels else .defaults
               status := if t.valid .status then im.tables.status else .defaults
               notice := if t.valid .notice then im.tables.notice else noticeDefaults
               filters := if t.valid .filters then im.tables.filters else .defaults }
           ∧ (t.valid .route = false → t.lr.routes = builtInTable)
           ∧ (t.valid .route = true → (im.routes.map (·.key)).Nodup →
               (∀ e ∈ im.routes, ∃ i, lookupRoute t.lr.routes e.key = some i
                 ∧ (t.lr.routes.read i).entry = e ∧ (t.lr.routes.read i).used = false)
               ∧ ∀ i, (t.lr.routes.read i).valid = true → (t.lr.routes.read i).entry ∈ im.routes))
      ∧ t.tables.inRange = true
      ∧ (∀ (item : Nat) (v : Int) (taken : Bool), readItemAt t item 0 = .value (some v) →
          t.tables.itemTakes item v.toNat = some taken → taken = true)
      ∧ t.ts.generation = (if s.ts.image.headerCrc = crc16 (wordBytes s.ts.image.generation) then
          s.ts.image.generation else 0)
      ∧ (t.ts.check = .passed ↔ ∀ x, t.valid x = true)
      ∧ (t.ts.check = .passed ∨ t.ts.check = .failed)
      ∧ (∀ c, (t.channel c).configured = (t.groupRec (groupOf c)).configured)
      ∧ (∀ p, (t.wheel p).missing =
          if t.wheelConfigured p ∧ (t.wheelRec p).sensorId ≠ none then some t.wheelsInForce.missing
          else none)
      ∧ (∀ k, (t.nu.records.read k).message = (t.noticeInForce.read k).message
          ∧ (t.nu.records.read k).lamp = (t.noticeInForce.read k).lamp)
      ∧ t.nu.lampOut = t.nu.lampDue ∧ t.tu.worst = t.worstNow
      ∧ t.time = s.time ∧ t.lr.ownPos = s.lr.ownPos ∧ t.du.link = s.du.link ∧ t.port .rl = s.port .rl
      ∧ t.si.records = s.si.records ∧ t.sc.rear = s.sc.rear ∧ t.ts.image = s.ts.image
      ∧ t.pending = s.pending
      ∧ t.sc.sending = true
      ∧ t.sc.periodic =
          (if t.statusInForce.periodic = 0 then .stopped else .running t.statusInForce.periodic)
      ∧ (s.bt = .fresh .defaults → s.su = .fresh .defaults → s.du = .fresh →
          (s.si.vref = 0 → s.si.motion = .undetermined → s.si.stationary = .stopped →
            t.si.stationary = .running 2000 ∧ t.si.motion = .undetermined) ∧
          (∀ c, (t.channel c).configured = true → (t.channel c).refresh = .running 50 ∧
            (s.roomFor .wb 6 → (t.channel c).lastCommanded = some (t.channel c).target ∧
              ∃ m ∈ (t.port .wb).queue, m.kind = kModulator ∧ m.own = true ∧ m.hdr.priority = 1
                ∧ m.hdr.selector.toNat = c.val + 1 ∧ m.data = natHalf (t.channel c).target)) ∧
          (∀ c, (t.channel c).configured = false →
            (t.channel c).refresh = .stopped ∧ (t.channel c).lastCommanded = none) ∧
          ((∀ f, s.sc.lastSent.read f = 0) → s.sc.minTimer = .stopped → s.sc.sending = false →
            (s.port .fl).on = true → (s.port .fl).queue = [] →
            (t.statusInForce.fields.read 0).change = true →
              t.sc.lastSent.read 0 = t.du.mode.code ∧ t.sc.minTimer = .running t.statusInForce.minInterval
              ∧ ∃ m ∈ (t.port .fl).queue, m.own = true ∧ m.kind = kStatus ∧ m.hdr.priority = 2
                  ∧ m.data = statusData t.sc.lastSent))

/-- The restart of R188: the time count, the flags, counts and stamps of the notice records, and the
snapshot store with its settings are kept, and LAMP and the notice summary are those of the kept flags;
conditions and enables, and everything else, are what POWER_ON gives in the same state. It comes with the
expiry of the 100 ms, with the reply's last segment being sent or leaving its queue at a bus-off or by
eviction (R21, here by the periodic STATUS), and at once when the reply is refused or discarded. Until then
segments and requests of every row are discarded, and the transmitters and the second tick go on. That the
commands in the queue are kept is the model's choice (log 24), as are the load falling at the end of START
(log 10) and a RESTART executed while the port of its source is OFF (log 15). -/
def Obligations.RestartKeepsNotices : Prop :=
  ∀ s : State, s.owed = [] → s.ts.writing = none →
    let started (t : State) : Prop :=
      (∃ u, exec .powerOn s = .next u ∧ t = { u with
          time := s.time, nu := t.nu
          sc := { u.sc with live := (u.sc.live.write 4 (bit t.nu.lampOut)).write 10 t.nu.classMask } })
        ∧ t.ts.image = s.ts.image ∧ t.nu.lampOut = t.nu.lampDue
        ∧ t.nu.snapshots = s.nu.snapshots ∧ t.nu.triggers = s.nu.triggers ∧ t.nu.mode = s.nu.mode
        ∧ t.nu.maskIntervention = s.nu.maskIntervention ∧ t.nu.maskEmergency = s.nu.maskEmergency
        ∧ t.nu.maskDemandLost = s.nu.maskDemandLost
        ∧ ∀ k, (t.nu.notice k).present = false ∧ (t.nu.notice k).message = true
            ∧ (t.nu.notice k).lamp = k.defaultLamp
    let kept (t : State) : Prop := ∀ k, (t.nu.notice k).flag = (s.nu.notice k).flag
      ∧ t.occurrences k = s.occurrences k ∧ (t.nu.notice k).first = (s.nu.notice k).first
      ∧ (t.nu.notice k).latest = (s.nu.notice k).latest
    (s.me.restartPending = true → s.me.restartTimer.due = true →
      ∃ t, exec .restartTimerExpiry s = .next t ∧ started t ∧ kept t) ∧
    (∀ p a x z, s.me.restartPending = true → (s.port p).queue = a ++ x :: z → x.sending = true →
      (∀ m ∈ a ++ z, m.restartReply = false) → (∀ q, q ≠ p → ∀ m ∈ (s.port q).queue, m.restartReply = false) →
        (∃ t, exec (.transmissionSucceeded p) s = .next t ∧ started t ∧ kept t) ∧
        ((s.port p).on = true → ∃ t, exec (.busOff p) s = .next t ∧ started t)) ∧
    (∀ a x z, s.me.restartPending = true → s.sc.periodic.due = true → (s.port .fl).on = true →
      (s.port .fl).queue = a ++ x :: z → (s.port .fl).queue.length = 16 → x.sending = false →
      2 < x.hdr.priority → (∀ m ∈ a, m.sending = false → m.hdr.priority ≤ x.hdr.priority) →
      (∀ m ∈ z, m.sending = false → m.hdr.priority < x.hdr.priority) →
      (∀ m ∈ a ++ x :: z, m.own = true → m.kind ≠ kStatus) →
      (∀ m ∈ a ++ z, m.restartReply = false) → (∀ q, q ≠ .fl → ∀ m ∈ (s.port q).queue, m.restartReply = false) →
        ∃ t, exec .statusPeriodicTimerExpiry s = .next t ∧ started t
          ∧ t.occurrences .txOverflow ≠ 0) ∧
    (∀ src tag, s.takesWrites → (∀ p, ∀ m ∈ (s.port p).queue, m.restartReply = false) →
      ((s.port (sourcePort src)).on = false →
        ∃ t, exec (.restart src tag) s = .next t ∧ started t ∧ kept t) ∧
      ((s.port (sourcePort src)).on = true → (s.port (sourcePort src)).queue.length = 16 →
        (∀ m ∈ (s.port (sourcePort src)).queue, m.hdr.priority ≤ 4) →
        ∃ t, exec (.restart src tag) s = .next t ∧ started t
          ∧ t.occurrences .txOverflow ≠ 0)) ∧
    (s.me.restartPending = true → (∃ p, ∃ m ∈ (s.port p).queue, m.restartReply = true) →
      (∀ c, isRequest c = true → exec c s = .next s) ∧
      (∀ src h d i, s.receives (sourcePort src) = true →
        s.hit (sourcePort src) { kind := kManageRequest, hdr := h, data := d } = some i →
        (s.lr.routes.read i).entry.consumer = .me → (s.lr.routes.read i).entry.toFL = false →
        (s.lr.routes.read i).entry.toRL = false →
          exec (.manageRequestSegment src h d) s = .next ((s.heard (sourcePort src)).usedAt i)) ∧
      (∀ p, (s.port p).on = true → exec (.transmissionAttemptStart p) s
        = .next (s.setPort p { s.port p with queue := startAttempt (s.port p).queue })) ∧
      (s.tu.tickDue = true → ∃ t, exec .secondTick s = .next t ∧ t = s.setTu t.tu ∧ t.tu.tickDue = false))

/-! ### The laws that every step keeps -/

/-- Every law below holds of the part after reset. -/
def Obligations.ResetMeetsEveryLaw : Prop :=
  routeLaw State.reset.lr.routes ∧ State.reset.rearLaw ∧ State.reset.positionLaw
    ∧ State.reset.queueLaw = true ∧ State.reset.tables.sensorLaw ∧ State.reset.candidateLaw
    ∧ State.reset.startLaw
    ∧ State.reset.nu.lampLaw ∧ State.reset.nu.presentLaw ∧ State.reset.nu.snapshotLaw ∧ State.reset.su.demandLaw
    ∧ State.reset.su.activeLaw ∧ State.reset.tables.inRange = true ∧ State.reset.si.windowLaw
    ∧ State.reset.modeLaw ∧ State.reset.effectLaw ∧ State.reset.loadsCurrent ∧ State.reset.targetsCurrent
    ∧ State.reset.copiesCurrent ∧ State.reset.liveCurrent

/-- The law of R13: every valid Route Table entry is found by a lookup of its own key. -/
def Obligations.RouteLawKept : Prop :=
  ∀ s t : State, routeLaw s.lr.routes → step s = .next t → routeLaw t.lr.routes

/-- A transmit queue holds at most 16 messages, at most one of them in transmission, and that of an OFF
port is empty (R1, R18). The law of R16: what waits on RL carries hop equal to own position; nothing waits
there while own position is unknown or 4. And own position is 1 to 4 when known, and unknown exactly while
the link state is NONE (R5, R7, R47, R51). -/
def Obligations.LinkLawsKept : Prop :=
  (∀ s t : State, s.queueLaw = true → step s = .next t → t.queueLaw = true) ∧
  (∀ s t : State, s.rearLaw → step s = .next t → t.rearLaw) ∧
  (∀ s t : State, s.positionLaw → step s = .next t → t.positionLaw)

/-- The laws of R99 and R121: no sensor ID stands in two wheel records; the candidate list holds at most 8
entries, no ID twice, and no ID of the Wheel Table; and it is empty in START (R115, R2). The working tables
hold only what the write rules take (R62, R63, R64, R99, R101, R123, R124, R160, R166), and the sample
windows stay within their sizes (R34, R35). -/
def Obligations.TableLawsKept : Prop :=
  (∀ s t : State, s.tables.sensorLaw → s.candidateLaw → s.startLaw → step s = .next t →
    t.tables.sensorLaw ∧ t.candidateLaw ∧ t.startLaw) ∧
  (∀ s t : State, s.tables.inRange = true → s.si.windowLaw → step s = .next t →
    t.tables.inRange = true ∧ t.si.windowLaw)

/-- The laws of R153 and R156: LAMP is active exactly while a set flag has its lamp enable set; the
snapshot store holds at most 4 records and no more than its trigger count. An event kind has no condition
present (R149). -/
def Obligations.NoticeLawsKept : Prop :=
  (∀ s t : State, s.nu.lampLaw → s.nu.snapshotLaw → step s = .next t →
    t.nu.lampLaw ∧ t.nu.snapshotLaw) ∧
  (∀ s t : State, s.nu.presentLaw → step s = .next t → t.nu.presentLaw)

/-- The law of R142: a stability demand that is not 0 stands only on the test channel in TESTING, or in
INTERVENING or RELEASING; TESTING and INTERVENING occur only with a PASSED path check, a GOOD lateral
record and brake mode NORMAL or FALLBACK, as SU has been handed them. -/
def Obligations.StabilityLawsKept : Prop :=
  ∀ s t : State, s.su.demandLaw → s.su.activeLaw → step s = .next t → t.su.demandLaw ∧ t.su.activeLaw

/-- LU after every step (R65, R66, R68 to R74): in every state outside START whose step leaves no hand-off
over (log 4), each configured group's record is the computation of what stands, each unconfigured group's
the setting of R65, and LOAD_FALLBACK and OVERLOAD are present as their rules say; and the brake mode is
the one of R58. DU after every step (R52, R53): D is the last valid demand while the link is ACTIVE,
otherwise the last value of the control-line record while that is GOOD, and 0. -/
def Obligations.LoadsKeptCurrent : Prop :=
  (∀ s t : State, s.owed = [] → s.modeLaw → s.loadsCurrent → step s = .next t → t.owed = [] →
    t.modeLaw ∧ t.loadsCurrent) ∧
  (∀ s t : State, s.owed = [] → s.effectLaw → step s = .next t → t.owed = [] → t.effectLaw)

/-- BT after every step (R80, R82 to R85, R94, R95), when the step leaves no hand-off over (log 4): every
configured channel outside a test holds its merged target, the channel under test the check pressure of its
step, an unconfigured channel 0. So BT keeps its laws: outside EMERGENCY a target outside a test is at
least the smallest of service output, deflation cap of a deflated group, and limit; in EMERGENCY it equals
the limit; no target exceeds the limit. And every MODULATOR COMMAND that a hand-off, the start of a check,
a step expiry or a refresh expiry puts into the WB queue carries a value within the limit (R86). -/
def Obligations.TargetLawsKept : Prop :=
  (∀ s t : State, s.owed = [] → s.modeLaw → s.targetsCurrent → step s = .next t → t.owed = [] →
    t.targetsCurrent) ∧
  (∀ (s : State) (c : Fin 6), s.targetsCurrent → s.du.mode ≠ .start →
    (s.channel c).target ≤ s.limit ∧
    (s.bt.check.under ≠ some c → (s.channel c).configured = true →
      (s.du.mode = .emergency → (s.channel c).target = s.limit) ∧
      (s.du.mode ≠ .emergency →
        min (s.lu.read (groupOf c)).service s.limit ≤ (s.channel c).target ∨
          (s.tu.deflated.read (groupOf c) = true ∧
            ∃ cap, (s.groupRec (groupOf c)).cap = some cap ∧ min cap s.limit ≤ (s.channel c).target)))) ∧
  (∀ (allow : Bool) (h : HandOff) (w : Work), w.commandsWithin (handle allow h w)) ∧
  (∀ w : Work, w.commandsWithin (startCheck w) ∧ w.commandsWithin (stepExpiry w)) ∧
  (∀ (w : Work) (c : Fin 6), (w.st.channel c).target ≤ w.st.limit → w.commandsWithin (refreshExpiry c w))

/-- SU and SC after every step (R126, R135, R159), when the step leaves no hand-off over (log 4): SU's
copies, and SC's copies and live values, are those of their owners. That SU's a_y is absent also after the
stale expiry of a lateral record that was SUSPECT already is the model's reading (log 28). So the law of
R142 holds of the owners: TESTING and INTERVENING occur only while BT's path check is PASSED, SI's lateral
record is GOOD and DU's brake mode is NORMAL or FALLBACK. -/
def Obligations.CopiesKeptCurrent : Prop :=
  (∀ s t : State, s.owed = [] → s.modeLaw → s.copiesCurrent → step s = .next t → t.owed = [] →
    t.copiesCurrent) ∧
  (∀ s t : State, s.owed = [] → s.modeLaw → s.copiesCurrent → s.liveCurrent → step s = .next t →
    t.owed = [] → t.liveCurrent) ∧
  (∀ s : State, s.copiesCurrent → s.su.activeLaw → s.su.state = .testing ∨ s.su.state = .intervening →
    s.bt.check.overall = .passed ∧ (s.record .lateral).state = .good
      ∧ (s.du.mode = .normal ∨ s.du.mode = .fallback))

/-! ### Link Router -/

/-- The relation of a frame (R9), row by row, with the codes of relations and ports; a frame is looked up
by its arrival port, its kind and the relation judged against own position as it stands. -/
def Obligations.RelationTable : Prop :=
  (∀ pos target, relationOf .wb pos target = .self) ∧
  (∀ p pos, p ≠ .wb → relationOf p pos 0 = .all) ∧
  (∀ p n (target : BitVec 3), p ≠ .wb → target ≠ 0 →
    relationOf p (some n) target =
      if target.toNat = n then .self else if n < target.toNat then .behind else .ahead) ∧
  (∀ p (target : BitVec 3), p ≠ .wb → target ≠ 0 → relationOf p none target = .unplaced) ∧
  [Relation.all, .self, .behind, .ahead, .unplaced].map Relation.code = [0, 1, 2, 3, 4] ∧
  [Port.fl, .rl, .wb].map portCode = [0, 1, 2] ∧
  (∀ (s : State) (p : Port) (f : Frame), s.hit p f = lookupRoute s.lr.routes
    { port := p, kind := f.kind, relation := relationOf p s.lr.ownPos f.hdr.target })

/-- WRITE ENTRY's insert (R13): the entry is found at the slot answered, every other key is looked up as
before up to the used flags, and the law of the table is kept. ERASE ENTRY (R14) takes one entry away: its
key misses, every other key is looked up as before. WRITE_ENTRY_ROUTE and ERASE_ENTRY_ROUTE in maintenance
(R13, R14): the insert with the slot number in the reply, TABLE_FULL when no slot is left, BAD_PARAM for a
field out of its range or a WB entry of a relation other than SELF, the erase keeping the continue bit,
ABSENT for a slot that is not valid, BAD_PARAM for a number above 63; nothing else changes. -/
def Obligations.RouteTableWrites : Prop :=
  (∀ (r r' : Bank RouteSlot 64) (e : RouteEntry) (i : Fin 64), routeLaw r → insertRoute r e = some (r', i) →
    lookupRoute r' e.key = some i ∧ (r'.read i).entry = e ∧ (r'.read i).used = false
      ∧ (∀ k, k ≠ e.key → lookupRoute r' k = lookupRoute r k)
      ∧ (∀ j, j ≠ i → (r'.read j).entry = (r.read j).entry ∧ (r'.read j).valid = (r.read j).valid)
      ∧ routeLaw r') ∧
  (∀ (r : Bank RouteSlot 64) (i : Fin 64), routeLaw r → (r.read i).valid = true →
    let r' := r.write i { RouteSlot.free with cont := (r.read i).cont }
    lookupRoute r' (r.read i).entry.key = none
      ∧ (∀ k, k ≠ (r.read i).entry.key → lookupRoute r' k = lookupRoute r k) ∧ routeLaw r') ∧
  (∀ (s : State) (src : Source) (tag : Byte), s.takesWrites →
    (∀ (e : RouteEntry) (r : Bank RouteSlot 64) (i : Fin 64), routeEntryOk e = true →
      insertRoute s.lr.routes e = some (r, i) → s.roomForReply src 0x05 tag .done [byteOf i.val] →
      exec (.writeEntryRoute src tag e.packed) s
        = .next ((s.setLr { s.lr with routes := r }).replied src 0x05 tag .done [byteOf i.val])) ∧
    (∀ e : RouteEntry, routeEntryOk e = true → insertRoute s.lr.routes e = none →
      s.answers (.writeEntryRoute src tag e.packed) src 0x05 tag .tableFull []) ∧
    (∀ f : RouteFields,
      2 < f.port.toNat ∨ 31 < f.kind.toNat ∨ 4 < f.relation.toNat ∨ 5 < f.consumer.toNat
        ∨ 3 < f.forward.toNat ∨ (f.port = 2 ∧ f.relation ≠ 1) →
      s.answers (.writeEntryRoute src tag f) src 0x05 tag .badParam []) ∧
    (∀ i : Fin 64, (s.lr.routes.read i).valid = true → s.roomForReply src 0x06 tag .done [] →
      exec (.eraseEntryRoute src tag (byteOf i.val)) s
        = .next ((s.setLr { s.lr with
            routes := s.lr.routes.write i { RouteSlot.free with cont := (s.lr.routes.read i).cont } }).replied
              src 0x06 tag .done [])) ∧
    (∀ i : Fin 64, (s.lr.routes.read i).valid = false →
      s.answers (.eraseEntryRoute src tag (byteOf i.val)) src 0x06 tag .absent []) ∧
    (∀ b : Byte, 63 < b.toNat → s.answers (.eraseEntryRoute src tag b) src 0x06 tag .badParam []))

/-- A frame no unit takes, on a port that is ON with START ended (R2, R11, R12, R16, R17): its silence
timer restarts, the used flag of its slot is set, and the copies of the forward set enter the other ports'
queues, unchanged toward FL, with hop rewritten to own position toward RL, and none toward RL while own
position is unknown or 4. That a forwarded MODULATOR COMMAND replaces none is the model's reading (log 32).
A message that the consumer does not take for its kind or port is discarded. A frame whose key misses is
dropped, and ROUTE_MISS is raised with the key as detail; no queue takes it. A frame that is not a data
frame of 29 bits restarts the silence timer alone; an OFF port, and START, take nothing. -/
def Obligations.FrameReceivedIsForwarded : Prop :=
  ∀ (s : State) (p : Port) (b : BusFrame), s.ready →
    let f := BusFrame.taken b
    (b.form = .extended → s.receives p = true → f.kind ≠ kDemand → f.kind ≠ kStatus →
      ∀ i, s.hit p f = some i → (s.lr.routes.read i).entry.consumer = .noUnit →
        let e := (s.lr.routes.read i).entry
        let taken := (s.heard p).usedAt i
        let ahead := if e.toFL = true ∧ p ≠ .fl then taken.appended .fl (forwardMsg f) else taken
        (e.toFL = true → s.roomFor .fl 1) → (e.toRL = true → s.roomFor .rl 1) →
          exec (.frameReceived p b) s = .next
            (match s.lr.ownPos with
             | none => ahead
             | some n =>
               if e.toRL = true ∧ p ≠ .rl ∧ n ≠ 4 then
                 ahead.appended .rl { forwardMsg f with hdr := { f.hdr with hop := BitVec.ofNat 3 n } }
               else ahead)) ∧
    (b.form = .extended → s.receives p = true → (p = .fl → f.kind ≠ kDemand) →
      (∀ i, s.hit p f = some i →
        Consumer.takes (s.lr.routes.read i).entry.consumer p f.kind = false →
        (s.lr.routes.read i).entry.toFL = false → (s.lr.routes.read i).entry.toRL = false →
          exec (.frameReceived p b) s = .next ((s.heard p).usedAt i)) ∧
      (s.hit p f = none →
        ∃ t, exec (.frameReceived p b) s = .next t
          ∧ s.raised t .routeMiss (f.kind.toNat * 256 + portCode p * 16
              + (relationOf p s.lr.ownPos f.hdr.target).code)
          ∧ (t.nu.notice .routeMiss).flag = true ∧ t.lr.routes = s.lr.routes
          ∧ t.port .rl = s.port .rl ∧ t.port .wb = s.port .wb ∧ t.si = s.si ∧ t.du = s.du ∧ t.lu = s.lu
          ∧ t.bt = s.bt ∧ t.tu = s.tu ∧ t.su = s.su ∧ t.me = s.me ∧ t.tables = s.tables
          ∧ ((s.nu.notice .routeMiss).flag = true → s.nu.lampLaw →
              t.lr = (s.heard p).lr ∧ t.sc = s.sc)
          ∧ s.SameGround t)) ∧
    (b.form ≠ .extended → s.receives p = true → exec (.frameReceived p b) s = .next (s.heard p)) ∧
    (s.receives p = false → exec (.frameReceived p b) s = .next s)

/-- The placement of a message in a queue (R20, R21, R22): it replaces a waiting message of its class in
place, enters a queue that is not full as the youngest, and in a full queue is either discarded or takes
the place of the youngest waiting message of the lowest priority, when its own priority is higher. The
classes (R19, R20): an own STATUS of one origin, a forwarded STATUS of one origin, a MODULATOR COMMAND for
one channel. That the last replaces only where BT offers it, and a forwarded one replaces none, is the
model's reading of R20 (log 32). -/
def Obligations.OfferFollowsPlacementRules : Prop :=
  (∀ (q : List QMsg) (m : QMsg), q.length ≤ 16 →
    ((∃ x ∈ q, x.sending = false ∧ x.replacedBy m = true) →
      (enqueue q m).2 = (.placed, false) ∧ (enqueue q m).1.length = q.length
        ∧ ∃ a x z, q = a ++ x :: z ∧ x.sending = false ∧ x.replacedBy m = true
            ∧ (∀ y ∈ a, y.sending = true ∨ y.replacedBy m = false) ∧ (enqueue q m).1 = a ++ m :: z) ∧
    ((∀ x ∈ q, x.sending = false → x.replacedBy m = false) → q.length < 16 →
      enqueue q m = (q ++ [m], .placed, false)) ∧
    ((∀ x ∈ q, x.sending = false → x.replacedBy m = false) → q.length = 16 →
      ((∀ y ∈ q, y.sending = false → y.hdr.priority ≤ m.hdr.priority) → enqueue q m = (q, .discarded, true)) ∧
      ((∃ y ∈ q, y.sending = false ∧ m.hdr.priority < y.hdr.priority) →
        ∃ a x z, q = a ++ x :: z ∧ x.sending = false
          ∧ (∀ y ∈ q, y.sending = false → y.hdr.priority ≤ x.hdr.priority)
          ∧ (∀ y ∈ z, y.sending = false → y.hdr.priority < x.hdr.priority)
          ∧ enqueue q m = (a ++ z ++ [m], .placed, true)))) ∧
  (∀ x m : QMsg,
    (x.sameClass m = true ↔
      (x.kind = kStatus ∧ m.kind = kStatus ∧ x.own = m.own ∧ x.hdr.origin = m.hdr.origin)
        ∨ (x.kind = kModulator ∧ m.kind = kModulator ∧ x.hdr.selector = m.hdr.selector)) ∧
    (x.replacedBy m = true ↔ x.sameClass m = true ∧ (m.kind = kModulator → m.own = true)))

/-- The transmitter of an ON port (R19): with nothing in transmission it starts the oldest waiting message
of the highest priority; a success removes the message in transmission; a failure returns it to waiting
with its age, or removes it when a newer message of its class waits. Nothing but the queue changes. BUS_OFF
of an ON port (R1): the port is OFF with an empty queue, its OFF time runs 200 ms, its error counts start
again and TX_OVERFLOW counts it; PORT_ON then turns it ON with an empty queue and nothing else changed. -/
def Obligations.PortCommands : Prop :=
  (∀ (s : State) (p : Port), (s.port p).on = true → s.ready →
    let put (q : List QMsg) : State := s.setPort p { s.port p with queue := q }
    (∀ a x z, (s.port p).queue = a ++ x :: z → (∀ m ∈ a ++ x :: z, m.sending = false) →
      (∀ m ∈ a, x.hdr.priority < m.hdr.priority) → (∀ m ∈ z, x.hdr.priority ≤ m.hdr.priority) →
      exec (.transmissionAttemptStart p) s = .next (put (a ++ { x with sending := true } :: z))) ∧
    (∀ a x z, (s.port p).queue = a ++ x :: z → (∀ m ∈ a ++ z, m.sending = false) → x.sending = true →
      exec (.transmissionAttemptStart p) s = .next s ∧
      exec (.transmissionSucceeded p) s = .next (put (a ++ z)) ∧
      exec (.transmissionFailed p) s = .next (put
        (if ∃ m ∈ z, x.sameClass m = true then a ++ z else a ++ { x with sending := false } :: z)))) ∧
  (∀ (s : State) (p : Port), s.ready →
    ((s.port p).on = true →
      ∃ t, exec (.busOff p) s = .next t ∧ (t.port p).on = false ∧ (t.port p).queue = []
        ∧ (t.port p).offTimer = .running 200 ∧ (t.port p).txErrors = 0 ∧ (t.port p).rxErrors = 0
        ∧ (s.occurrences .txOverflow < 65535 → s.occurrences .txOverflow < t.occurrences .txOverflow)
        ∧ (t.nu.notice .txOverflow).flag = true ∧ t.tables = s.tables ∧ t.lr.routes = s.lr.routes
        ∧ t.si = s.si ∧ t.du = s.du ∧ t.bt = s.bt ∧ t.tu = s.tu ∧ t.su = s.su ∧ t.me = s.me
        ∧ t.ts = s.ts ∧ s.SameGround t) ∧
    ((s.port p).offTimer.due = true →
      exec (.portOn p) s
        = .next (s.setPort p { s.port p with on := true, offTimer := .stopped, queue := [] })))

/-! ### Demand -/

/-- FL_SILENCE and RL_SILENCE (R7, R8, R51, R169): FL silence makes own position unknown, empties the RL
queue and takes the link to NONE with its recorded values absent and D to the control line while its record
is GOOD, to 0 otherwise, ends DEMAND_LOST and judges the emergency; RL silence leaves own position; both
clear the rear match states, and the silence timer stays expired. DEMAND_TIMEOUT (R49, R52): in ACTIVE the
link becomes LOST, the recovery count 0 and the timeout stopped; the recorded values stay; D turns to the
control line while its record is GOOD, and to 0 otherwise; the chain flag stops counting and the emergency
and the brake mode follow; DEMAND_LOST is raised with the last counter as its detail and is present. Its
snapshot (R157), where the mask names it and the store has room: link LOST, the new D, the new cause, and
v_ref and targets from before other units act; that the cause is the one derived at the timeout is the
model's reading (log 17). -/
def Obligations.LinkIsLost : Prop :=
  (∀ s : State, s.ready →
    (s.lr.flSilence.due = true →
      ∃ t, exec .flSilence s = .next t ∧ t.lr.flSilence = .expired ∧ t.lr.ownPos = none
        ∧ (t.port .rl).queue = [] ∧ t.du.link = .noLink ∧ t.du.lastCounter = none ∧ t.du.lastDemand = none
        ∧ t.du.lastSpeed = none ∧ t.du.chainFlag = false ∧ t.du.parkFlag = false
        ∧ t.du.timeout = .stopped ∧ t.du.recovery = 0
        ∧ t.du.inEffect = (if (s.record .controlLine).state = .good
            then (((s.record .controlLine).last.getD 0).toNat) else 0)
        ∧ (s.du.link ≠ .noLink → (t.nu.notice .demandLost).present = false)
        ∧ t.occurrences .demandLost = s.occurrences .demandLost
        ∧ s.emergencyFollows t ∧ t.du.mode = t.modeNow
        ∧ (∀ o, t.sc.rear.read o = false) ∧ t.lr.routes = s.lr.routes ∧ t.tables = s.tables
        ∧ t.time = s.time ∧ t.si.records = s.si.records ∧ t.ts.image = s.ts.image) ∧
    (s.lr.rlSilence.due = true →
      ∃ t, exec .rlSilence s = .next t ∧ t.lr.rlSilence = .expired
        ∧ (∀ o, t.sc.rear.read o = false) ∧ t.du = s.du ∧ t.si = s.si ∧ t.bt = s.bt ∧ t.su = s.su
        ∧ t.lr.routes = s.lr.routes ∧ t.tables = s.tables ∧ t.port .rl = s.port .rl ∧ s.SameGround t)) ∧
  (∀ s : State, s.ready → s.du.timeout.due = true → s.du.link = .active →
    ∃ t, exec .demandTimeout s = .next t
      ∧ t.du.link = .lost ∧ t.du.recovery = 0 ∧ t.du.timeout = .stopped
      ∧ t.du.lastCounter = s.du.lastCounter ∧ t.du.lastDemand = s.du.lastDemand
      ∧ t.du.lastSpeed = s.du.lastSpeed ∧ t.du.chainFlag = s.du.chainFlag ∧ t.du.parkFlag = s.du.parkFlag
      ∧ t.du.inEffect = (if (s.record .controlLine).state = .good
          then (((s.record .controlLine).last.getD 0).toNat) else 0)
      ∧ (∀ c, s.du.lastCounter = some c → s.raised t .demandLost c.toNat)
      ∧ (t.nu.notice .demandLost).present = true
      ∧ s.emergencyFollows t ∧ t.du.mode = t.modeNow
      ∧ t.tables = s.tables ∧ t.lr.routes = s.lr.routes ∧ t.lr.ownPos = s.lr.ownPos
      ∧ t.si.records = s.si.records ∧ t.port .rl = s.port .rl ∧ t.time = s.time ∧ t.ts.image = s.ts.image) ∧
  (∀ w : Work, w.st.du.link = .active → w.st.nu.maskDemandLost = true → w.st.nu.snapshots.length < 4 →
    (w.st.active .supply = true → w.st.du.emergency = true) →
      let t := (loseDemand w).st
      ∃ r, t.nu.snapshots = w.st.nu.snapshots ++ [r] ∧ r.trigger = .demandLost ∧ r.time = w.st.time
        ∧ r.link = .lost ∧ r.inEffect = t.du.inEffect ∧ r.cause = t.causeNow ∧ r.vref = w.st.si.vref
        ∧ ∀ c, r.targets.read c = (w.st.channel c).target)

/-- The judgments of a DEMAND. The hop test (R6). The check byte (R44): the register starts at 0xFF, takes
each byte by exclusive-or and eight steps with 0x1D, and ends with 0xFF; the worked value. The verdict
(R45). The recovery count in LOST (R50). The copy of R57: the flag set, byte 8 the check byte over the
copy, every other byte as received. -/
def Obligations.DemandJudgments : Prop :=
  (∀ hop : BitVec 3, (hopTest none hop = true ↔ hop.toNat ≤ 3) ∧
    ∀ p : Nat, (hopTest (some p) hop = true ↔ hop.toNat + 1 = p)) ∧
  (let step (r : Byte) : Byte := if r.getLsbD 7 then (r <<< 1) ^^^ 0x1D#8 else r <<< 1
   let through (r : Byte) : Byte := step (step (step (step (step (step (step (step r)))))))
   crc8 [] = 0x00#8 ∧
   (∀ (bs : List Byte) (b : Byte), crc8 (bs ++ [b]) ^^^ 0xFF#8 = through ((crc8 bs ^^^ 0xFF#8) ^^^ b)) ∧
   crc8 [0x31, 0x32, 0x33, 0x34, 0x35, 0x36, 0x37, 0x38, 0x39] = 0x4B#8) ∧
  (∀ (du : DemandUnit) (d : List Byte),
    (d.length < 8 ∨ crc8 (d.take 7) ≠ byteAt d 8 → verdictOf du d = .invalid) ∧
    (8 ≤ d.length → crc8 (d.take 7) = byteAt d 8 →
      (du.lastCounter = some ((byteAt d 6).extractLsb' 0 4) → verdictOf du d = .stale) ∧
      (du.lastCounter ≠ some ((byteAt d 6).extractLsb' 0 4) → verdictOf du d = .valid))) ∧
  (∀ (previous counter : BitVec 4),
    recoveryAfter 0 (some previous) counter = 1 ∧
    ∀ n, n = 1 ∨ n = 2 →
      recoveryAfter n (some previous) counter
        = if counter.toNat = (previous.toNat + 1) % 16 then n + 1 else 1) ∧
  (∀ a b c d e f g h : Byte,
    withChainFlag [a, b, c, d, e, f, g, h]
      = [a, b, c, d, e ||| 1, f, g, crc8 [a, b, c, d, e ||| 1, f, g]])

/-- A DEMAND on FL that fails the hop test (R6) restarts the silence timer and raises HOP_MISMATCH, and no
slot, no field of DU and no RL message changes; one whose verdict is invalid (R45) is looked up and ends
there. A stale one (R45) changes no field of DU and is forwarded toward RL with hop rewritten (R16), and,
while emergency is on, with the chain-emergency flag and its check byte (R57). -/
def Obligations.DemandNotTakenChangesNothing : Prop :=
  (∀ (s : State) (h : Header) (d : List Byte), s.ready → s.receives .fl = true →
    (hopTest s.lr.ownPos h.hop = false →
      ∃ t, exec (.demand h d) s = .next t ∧ t.lr.flSilence = .running 500
        ∧ t.occurrences .hopMismatch = min (s.occurrences .hopMismatch + 1) 65535
        ∧ (t.nu.notice .hopMismatch).latest = some { detail := BitVec.ofNat 16 h.hop.toNat, time := s.time }
        ∧ t.lr.routes = s.lr.routes ∧ t.port .rl = s.port .rl ∧ t.du = s.du ∧ t.si = s.si ∧ t.bt = s.bt
        ∧ s.SameGround t) ∧
    (hopTest s.lr.ownPos h.hop = true → verdictOf s.du d = .invalid →
      ∀ i, s.hit .fl { kind := kDemand, hdr := h, data := d } = some i →
        (s.lr.routes.read i).entry.consumer = .du →
        exec (.demand h d) s = .next ((s.heard .fl).usedAt i))) ∧
  (∀ (s : State) (h : Header) (d : List Byte) (i : Fin 64) (n : Nat), s.ready →
    s.receives .fl = true → hopTest s.lr.ownPos h.hop = true → verdictOf s.du d = .stale →
    s.hit .fl { kind := kDemand, hdr := h, data := d } = some i →
    (s.lr.routes.read i).entry.consumer = .du → (s.lr.routes.read i).entry.toRL = true →
    s.lr.ownPos = some n → n ≠ 4 → s.roomFor .rl 1 →
      exec (.demand h d) s = .next (((s.heard .fl).usedAt i).appended .rl
        { kind := kDemand, hdr := { h with hop := BitVec.ofNat 3 n }
          data := if s.du.emergency = true ∧ chainFlagOf d = false then withChainFlag d else d
          own := false, restartReply := false, sending := false }))

/-- A valid DEMAND that DU takes (R5, R47, R48, R50): its values are recorded; from NONE and ACTIVE the
link is ACTIVE with the timeout at 60 ms; from LOST it recovers at the third in sequence, DEMAND_LOST
ending, and otherwise counts; own position, while unknown, becomes hop plus 1; and D is its demand pressure
while the link is ACTIVE (R52), the emergency and the brake mode following (R55, R56, R58). Where its route
names RL, its copy is the youngest of the RL queue, with hop equal to own position, the one it has taught
included (R5, R16), and, while emergency is then on, with the chain-emergency flag and its check byte
(R57); none is made at position 4. The snapshot of an EMERGENCY that it causes (R56, R157), where the mask
names it and the store has room: link ACTIVE, the new D and cause, v_ref and targets from before other
units act. -/
def Obligations.ValidDemandIsTaken : Prop :=
  (∀ (s : State) (h : Header) (d : List Byte), s.ready →
    s.routesTo .fl { kind := kDemand, hdr := h, data := d } .du → hopTest s.lr.ownPos h.hop = true →
    verdictOf s.du d = .valid →
      let f := readDemand d
      let n := recoveryAfter s.du.recovery s.du.lastCounter f.counter
      ∃ t, exec (.demand h d) s = .next t
        ∧ t.du.lastCounter = some f.counter ∧ t.du.lastDemand = some f.pressure
        ∧ t.du.lastSpeed = some f.speed ∧ t.du.chainFlag = f.chain ∧ t.du.parkFlag = f.park
        ∧ (s.du.link ≠ .lost ∨ n = 3 →
            t.du.link = .active ∧ t.du.timeout = .running 60 ∧ t.du.recovery = 0
              ∧ t.du.inEffect = f.pressure ∧ s.emergencyFollows t ∧ t.du.mode = t.modeNow
              ∧ (s.du.link = .lost → (t.nu.notice .demandLost).present = false))
        ∧ (s.du.link = .lost → n ≠ 3 →
            t.du.link = .lost ∧ t.du.timeout = s.du.timeout ∧ t.du.recovery = n
              ∧ (t.nu.notice .demandLost).present = (s.nu.notice .demandLost).present)
        ∧ t.occurrences .demandLost = s.occurrences .demandLost
        ∧ t.lr.ownPos = some (s.lr.ownPos.getD (h.hop.toNat + 1))
        ∧ (∀ i, s.hit .fl { kind := kDemand, hdr := h, data := d } = some i →
            let n := s.lr.ownPos.getD (h.hop.toNat + 1)
            let toRL := (s.lr.routes.read i).entry.toRL
            (toRL = true → n ≠ 4 → s.roomFor .rl 1 →
              t.port .rl = { s.port .rl with queue := (s.port .rl).queue ++ [
                { kind := kDemand, hdr := { h with hop := BitVec.ofNat 3 n }
                  data := if t.du.emergency = true ∧ chainFlagOf d = false then withChainFlag d else d
                  own := false, restartReply := false, sending := false }] }) ∧
            (toRL = false ∨ n = 4 → t.port .rl = s.port .rl))
        ∧ t.si.records = s.si.records ∧ t.tables = s.tables ∧ t.time = s.time ∧ t.ts.image = s.ts.image) ∧
  (∀ (f : DemandFields) (w : Work), w.st.du.link ≠ .lost → w.st.du.emergency = false →
    w.st.nu.maskEmergency = true → w.st.nu.snapshots.length < 4 →
    f.chain = true ∨ w.st.active .supply = true →
      let t := (takeValid f w).st
      ∃ r, t.nu.snapshots = w.st.nu.snapshots ++ [r] ∧ r.trigger = .emergency ∧ r.time = w.st.time
        ∧ r.link = .active ∧ r.inEffect = f.pressure ∧ r.cause = t.causeNow ∧ r.vref = w.st.si.vref
        ∧ ∀ c, r.targets.read c = (w.st.channel c).target)

/-! ### Sample Intake -/

/-- The five sample commands (R25 to R35): the record takes the clamped value and the time, its stale timer
starts, and its state and run follow the judgment; an implausible sample makes it SUSPECT and empties its
window; no other record changes. A frame too short for flag and value, and a selector that names no record
of the kind, are discarded: no record, window or timer changes, and nothing at all where the route has no
forward. STALE_TIMER_EXPIRY (R32, R30) makes the record SUSPECT with run 0, its value and arrival kept, and
empties its window. -/
def Obligations.SampleIsJudged : Prop :=
  (∀ (s : State) (c : Instr) (f : Frame) (q : Quantity) (valid : Bool) (raw : Int),
    sampleFrame c = some f → s.ready → s.routesTo .wb f .si →
    Quantity.ofSelector f.kind f.hdr.selector = some q → readSample f.kind f.data = some (valid, raw) →
      let old := s.record q
      ∃ t, exec c s = .next t
        ∧ (t.record q).last = some (clampInt q.low q.high raw) ∧ (t.record q).arrival = some s.time
        ∧ (t.record q).stale = .running q.staleLimit
        ∧ (s.plausible q valid raw = false → (t.record q).state = .suspect ∧ (t.record q).run = 0)
        ∧ (s.plausible q valid raw = true → old.state = .unknown →
            (t.record q).state = .good ∧ (t.record q).run = 1)
        ∧ (s.plausible q valid raw = true → old.state = .suspect →
            (t.record q).run = old.run + 1
              ∧ (t.record q).state = if 50 ≤ old.run + 1 then .good else .suspect)
        ∧ (s.plausible q valid raw = true → old.state = .good →
            (t.record q).state = .good ∧ (t.record q).run = min (old.run + 1) 50)
        ∧ (∀ r : Fin 18, r ≠ q.index → t.si.records.read r = s.si.records.read r)
        ∧ (∀ g, q = .bellows g → s.plausible q valid raw = false → t.si.bellows.read g = [])
        ∧ (∀ g, q ≠ .bellows g → t.si.bellows.read g = s.si.bellows.read g)
        ∧ t.tables = s.tables ∧ s.SameGround t) ∧
  (∀ (s : State) (c : Instr) (f : Frame) (i : Fin 64),
    sampleFrame c = some f → s.ready → s.receives .wb = true → s.hit .wb f = some i →
    (s.lr.routes.read i).entry.consumer = .si →
    (let n := f.hdr.selector.toNat
     f.data.length < 3 ∨ (f.kind = kMotion ∧ n ≠ 0) ∨ (f.kind = kBellows ∧ (n = 0 ∨ 3 < n))
      ∨ (f.kind = kAir ∧ (n = 0 ∨ 2 < n)) ∨ ((f.kind = kSpeed ∨ f.kind = kFeedback) ∧ (n = 0 ∨ 6 < n))) →
      (∃ t, exec c s = .next t ∧ t.si = s.si ∧ t.du = s.du ∧ t.lu = s.lu ∧ t.bt = s.bt ∧ t.tu = s.tu
        ∧ t.su = s.su ∧ t.me = s.me ∧ t.ts = s.ts ∧ t.tables = s.tables ∧ s.SameGround t) ∧
      ((s.lr.routes.read i).entry.toFL = false → (s.lr.routes.read i).entry.toRL = false →
        exec c s = .next (s.usedAt i))) ∧
  (∀ (s : State) (q : Quantity), s.ready → (s.record q).stale.due = true →
    ∃ t, exec (.staleTimerExpiry q.index) s = .next t
      ∧ t.record q = { s.record q with state := .suspect, run := 0, stale := .expired }
      ∧ (∀ r : Fin 18, r ≠ q.index → t.si.records.read r = s.si.records.read r)
      ∧ (∀ g, q = .bellows g → t.si.bellows.read g = [] ∧ ∀ k, k ≠ g → t.si.bellows.read k = s.si.bellows.read k)
      ∧ (q = .lateral → t.si.lateral = []) ∧ t.tables = s.tables ∧ t.lr.routes = s.lr.routes
      ∧ t.port .rl = s.port .rl ∧ s.SameGround t)

/-- The windows, the stuck count and SENSOR_SUSPECT (R29 to R35). A plausible bellows value enters its
group's window of 8, a plausible lateral value the window of 4, the oldest leaving a full one; an
implausible one empties it. The filtered value is the floor of the mean, of the lateral window truncated
toward zero. The repeat count follows R29. An implausible sample, and a stale expiry, raise SENSOR_SUSPECT
with the kind and the selector, which is present while some record is SUSPECT. That SU's a_y is absent also
after the stale expiry of a lateral record that was SUSPECT already is the model's reading (log 28). -/
def Obligations.WindowsAndStuckSensor : Prop :=
  (∀ (s : State) (c : Instr) (f : Frame) (q : Quantity) (valid : Bool) (raw : Int),
    sampleFrame c = some f → s.ready → s.routesTo .wb f .si →
    Quantity.ofSelector f.kind f.hdr.selector = some q → readSample f.kind f.data = some (valid, raw) →
      let good := s.plausible q valid raw
      let v := clampInt q.low q.high raw
      ∃ t, exec c s = .next t
        ∧ (∀ g, q = .bellows g →
            (good = true → (s.si.bellows.read g).length < 8 →
              t.si.bellows.read g = s.si.bellows.read g ++ [raw]) ∧
            (good = true → ∀ x z, s.si.bellows.read g = x :: z → z.length = 7 →
              t.si.bellows.read g = z ++ [raw]) ∧
            (good = false → t.si.bellows.read g = []))
        ∧ (q = .lateral →
            (good = true → s.si.lateral.length < 4 → t.si.lateral = s.si.lateral ++ [raw]) ∧
            (good = true → ∀ x z, s.si.lateral = x :: z → z.length = 3 → t.si.lateral = z ++ [raw]) ∧
            (good = false → t.si.lateral = []) ∧
            t.si.repeatCount =
              if s.si.repeatCount = 0 ∨ (s.record .lateral).last ≠ some v ∨ s.si.vref < 3000 then 1
              else min (s.si.repeatCount + 1) 200)
        ∧ (q ≠ .lateral → t.si.lateral = s.si.lateral ∧ t.si.repeatCount = s.si.repeatCount)
        ∧ (good = false → s.raised t .sensorSuspect (f.kind.toNat * 256 + f.hdr.selector.toNat))
        ∧ (good = true → t.occurrences .sensorSuspect = s.occurrences .sensorSuspect)
        ∧ ((t.nu.notice .sensorSuspect).present = true ↔ ∃ r, (t.si.records.read r).state = .suspect)) ∧
  (∀ (s : State) (q : Quantity), s.ready → (s.record q).stale.due = true →
    ∃ t, exec (.staleTimerExpiry q.index) s = .next t
      ∧ s.raised t .sensorSuspect (q.kind.toNat * 256 + q.selector)
      ∧ (t.nu.notice .sensorSuspect).present = true
      ∧ (q = .lateral → s.copiesCurrent →
          t.si.lateral = [] ∧ t.su.inputs.ay = none ∧ t.su.inputs.lateral = .suspect)) ∧
  (∀ (s : State) (g : Fin 3),
    (s.si.bellows.read g = [] → s.filteredBellows g = none) ∧
    (s.si.bellows.read g ≠ [] → (∀ v ∈ s.si.bellows.read g, 0 ≤ v) →
      ∃ m : Nat, s.filteredBellows g = some m
        ∧ (m : Int) * (s.si.bellows.read g).length ≤ (s.si.bellows.read g).sum
        ∧ (s.si.bellows.read g).sum < ((m : Int) + 1) * (s.si.bellows.read g).length) ∧
    (s.si.lateral = [] → s.filteredLateral = none) ∧
    (s.si.lateral ≠ [] → ∃ a : Int, s.filteredLateral = some a
      ∧ (0 ≤ s.si.lateral.sum → 0 ≤ a ∧ a * s.si.lateral.length ≤ s.si.lateral.sum
          ∧ s.si.lateral.sum < (a + 1) * s.si.lateral.length)
      ∧ (s.si.lateral.sum < 0 → a ≤ 0 ∧ s.si.lateral.sum ≤ a * s.si.lateral.length
          ∧ (a - 1) * s.si.lateral.length < s.si.lateral.sum)))

/-- The inputs and the motion state: the stationary timer's expiry (R38); an accepted level of SUPPLY with
the emergency it gives (R39, R40, R54, R56) and of PARK in RUN (R39, R40); a filter sample, which accepts a
level at the second of two consecutive samples and starts the next period (R39), and an edge of an
unfiltered input, accepted at once. A level that comes between two samples of a filtered input changes
nothing but where the pin stands, and a level that is not to be accepted now changes nothing (the model's
choice, log 8). -/
def Obligations.InputCommands : Prop :=
  ∀ s : State, s.ready →
    (s.si.stationary.due = true → s.slow → s.me.op = .run →
      ∃ t, exec .stationaryTimerExpiry s = .next t ∧ t.si.motion = .stationary ∧ t.me.op = .run
        ∧ t.tables = s.tables ∧ s.SameBackground t) ∧
    (∀ l, s.canAccept .supply l = true → s.calm →
      ∃ t, exec (.supplyAccepted l) s = .next t ∧ t.si.supply.accepted = some l ∧ s.emergencyFollows t
        ∧ t.si.park = s.si.park ∧ t.tables = s.tables ∧ s.SameBackground t) ∧
    (∀ l, s.canAccept .park l = true → s.me.op = .run →
      exec (.parkAccepted l) s = .next (s.setSi { s.si with
        park := match s.filtersInForce.park.filter.period with
          | none => { s.si.park with pin := l, accepted := some l }
          | some n => { pin := l, accepted := some l, previous := some l, sampler := .running n } })) ∧
    (∀ l, (s.canAccept .supply l = false → exec (.supplyAccepted l) s = .next s)
      ∧ (s.canAccept .park l = false → exec (.parkAccepted l) s = .next s)) ∧
    (∀ p l n, s.me.op ≠ .start → (s.filterOf p).filter.period = some n →
      ((s.input p).sampler.due = true →
        ∃ t, exec (.inputFilterSample p l) s = .next t
          ∧ t.input p =
            { pin := l, previous := some l, sampler := .running n
              accepted := if (s.input p).previous = some l then some l else (s.input p).accepted }
          ∧ t.tables = s.tables ∧ s.SameBackground t) ∧
      ((s.input p).sampler.due = false →
        exec (.inputFilterSample p l) s
          = .next (s.setSi (s.si.setInput p { s.input p with pin := l })))) ∧
    (∀ p l, s.me.op ≠ .start → (s.filterOf p).filter.period = none →
      ∃ t, exec (.inputFilterSample p l) s = .next t
        ∧ t.input p = { s.input p with pin := l, accepted := some l }
        ∧ t.tables = s.tables ∧ s.SameBackground t) ∧
    (∀ p l, s.canAccept p l = true ↔
      s.me.op ≠ .start ∧ (∃ a, (s.input p).accepted = some a ∧ a ≠ l) ∧
        ((s.filterOf p).filter = .unfiltered ∨
          ((s.input p).sampler.due = true ∧ (s.input p).previous = some l)))

/-- The reference speed (R36): the highest last value among the GOOD wheel-speed records but for the
channel under a test pulse; without one, the tractor speed of an ACTIVE link; otherwise 0. The brake mode
(R58) and the emergency cause (R54, R55, R56) from the states they depend on. -/
def Obligations.SpeedModeAndCause : Prop :=
  (∀ s : State,
    let counts (c : Fin 6) : Prop := (s.record (.speed c)).state = .good ∧ s.si.testChannel ≠ some c
    let value (c : Fin 6) : Nat := ((s.record (.speed c)).last.getD 0).toNat
    ((∃ c, counts c) → s.vrefNow.2 = .wheel ∧ (∀ c, counts c → value c ≤ s.vrefNow.1)
      ∧ ∃ c, counts c ∧ value c = s.vrefNow.1) ∧
    ((¬ ∃ c, counts c) → s.du.link = .active → s.vrefNow = (s.du.lastSpeed.getD 0, .tractor)) ∧
    ((¬ ∃ c, counts c) → s.du.link ≠ .active → s.vrefNow = (0, .noSpeed))) ∧
  (∀ s : State,
    (s.modeNow = .start ↔ s.me.op = .start) ∧ (s.modeNow = .maintenance ↔ s.me.op = .maintenance) ∧
    (s.modeNow = .emergency ↔ s.me.op = .run ∧ s.du.emergency = true) ∧
    (s.modeNow = .fallback ↔ s.me.op = .run ∧ s.du.emergency = false ∧ s.du.link ≠ .active) ∧
    (s.modeNow = .normal ↔ s.me.op = .run ∧ s.du.emergency = false ∧ s.du.link = .active) ∧
    (s.causeNow = .input ∨ s.causeNow = .both ↔
      (s.si.supply.accepted = some .high ∧ s.filtersInForce.supply.polarity = .activeHigh) ∨
      (s.si.supply.accepted = some .low ∧ s.filtersInForce.supply.polarity = .activeLow)) ∧
    (s.causeNow = .chain ∨ s.causeNow = .both ↔ s.du.link = .active ∧ s.du.chainFlag = true))

/-! ### Load -/

/-- The load curve (R70): along a curve that the write rule takes, the load is that of the first point at
or below it and of the last at or above it; on a segment it is the rounded straight line; it never
decreases and stays within the ends. A group of GOOD quality reads its load from its curve at its filtered
pressure. The law of LU (R74) over a computed group: with the tables in range, the fraction is at most
1024; under GOOD quality outside maintenance the ratio lies within R_e..1024, rises with the fraction along
the rounded line of R73, and under FALLBACK is R_fb; the service output never exceeds D, is D at or below
P_th, and is P_th plus the rounded share of the rest above it. The load fraction (R71): for a group of GOOD
quality it is the floor of L times 1024 by Lr, and 1024 when that is above 1024. The fallback cause (R68):
the first line that holds. -/
def Obligations.LoadLaw : Prop :=
  ((∀ ps : List (Nat × Nat), curveOk ps = true → ps ≠ [] →
    (∀ b, b ≤ (ps.head!).1 → loadAt b ps = (ps.head!).2) ∧
    (∀ b, (ps.getLast!).1 ≤ b → loadAt b ps = (ps.getLast!).2) ∧
    (∀ a p q z b, ps = a ++ p :: q :: z → p.1 ≤ b → b < q.1 →
      let product := (q.2 - p.2) * (b - p.1)
      let span := q.1 - p.1
      ∃ k, loadAt b ps = p.2 + k
        ∧ (2 * k) * span ≤ 2 * product + span ∧ 2 * product + span < (2 * k + 2) * span) ∧
    (∀ b b', b ≤ b' → loadAt b ps ≤ loadAt b' ps) ∧
    (∀ p ∈ ps, loadAt p.1 ps = p.2) ∧
    (∀ b, (ps.head!).2 ≤ loadAt b ps ∧ loadAt b ps ≤ (ps.getLast!).2 ∧ loadAt b ps ≤ 6553)) ∧
  (∀ (s : State) (g : Fin 3), (s.computed g).quality = .good →
    ∃ b, (s.lu.read g).bellows = some b ∧ (s.computed g).load = some (loadAt b (s.curve g)))) ∧
  (∀ (s : State) (g : Fin 3), s.tables.inRange = true →
    let x := s.computed g
    let r := s.groupRec g
    (∀ f, x.fraction = some f → f ≤ 1024)
      ∧ (x.quality = .good → s.du.mode ≠ .maintenance → r.emptyRatio ≤ x.ratio ∧ x.ratio ≤ 1024)
      ∧ (x.quality = .fallback → s.du.mode ≠ .maintenance → x.ratio = s.groupsInForce.fallbackRatio)
      ∧ (s.du.mode = .maintenance → x.ratio = 1024)
      ∧ x.service ≤ s.du.inEffect ∧ (s.du.inEffect ≤ r.threshold → x.service = s.du.inEffect)
      ∧ (x.overload = true ↔ ∃ l, x.load = some l ∧ r.rated < l)) ∧
  (∀ (r : GroupRec) (f f' : Nat), groupRecOk r = true → f ≤ f' → ratioOf r f ≤ ratioOf r f') ∧
  (∀ (r : GroupRec) (f : Nat), groupRecOk r = true →
    let product := (1024 - r.emptyRatio) * (f - r.emptyKnee)
    let span := r.ladenKnee - r.emptyKnee
    (f ≤ r.emptyKnee → ratioOf r f = r.emptyRatio) ∧ (r.ladenKnee ≤ f → ratioOf r f = 1024) ∧
    (r.emptyKnee < f → f < r.ladenKnee → ∃ k, ratioOf r f = r.emptyRatio + k
      ∧ (2 * k) * span ≤ 2 * product + span ∧ 2 * product + span < (2 * k + 2) * span)) ∧
  (∀ (s : State) (g : Fin 3), (s.groupRec g).threshold < s.du.inEffect →
    let product := (s.du.inEffect - (s.groupRec g).threshold) * (s.computed g).ratio
    ∃ k, (s.computed g).service = (s.groupRec g).threshold + k
      ∧ (2 * k) * 1024 ≤ 2 * product + 1024 ∧ 2 * product + 1024 < (2 * k + 2) * 1024) ∧
  (∀ (s : State) (g : Fin 3), s.tables.inRange = true → (s.computed g).quality = .good →
    ∃ l f, (s.computed g).load = some l ∧ (s.computed g).fraction = some f
      ∧ l ≤ 6553 ∧ 100 ≤ (s.groupRec g).rated
      ∧ (l * 1024 < 1025 * (s.groupRec g).rated →
          f * (s.groupRec g).rated ≤ l * 1024 ∧ l * 1024 < (f + 1) * (s.groupRec g).rated)
      ∧ (1025 * (s.groupRec g).rated ≤ l * 1024 → f = 1024)
      ∧ (l = (s.groupRec g).rated → f = 1024)) ∧
  (∀ (s : State) (g : Fin 3),
    let x := (s.record (.bellows g)).state
    ((s.computed g).quality = .good ↔ (s.computed g).cause = .noCause) ∧
    (s.valid .groups = false → (s.computed g).cause = .sectionInvalid) ∧
    (s.valid .groups = true → s.curve g = [] → (s.computed g).cause = .noCurve) ∧
    (s.valid .groups = true → s.curve g ≠ [] →
      (x = .unknown → (s.computed g).cause = .sensorUnknown) ∧
      (x = .suspect → (s.computed g).cause = .sensorSuspect) ∧
      (x = .good → (s.computed g).cause =
        if (s.lu.read g).bellows = none then .sensorSuspect else .noCause)))

/-- One computation of a group outside START, and one setting of an unconfigured group (R65 to R69, R72):
the record is what the rules give; OVERLOAD and LOAD_FALLBACK occur, with the group as detail, when the
flag is newly set and when a cause that is reported is newly there, and are present while some group has
one; a changed S is handed to BT; a changed load or load quality, or a rated load in force that SU was not
last handed, to SU; a changed load or load quality to SC. A bellows sample or a change of its record copies
B_f first, in START too. What SU and SC hold already, handed again, leaves the work as it was (log 50, the
model's choice), and a computation that changes nothing hands nothing on: with the copies of SU and SC
current, nothing is left to do and nothing has changed when its hand-offs are done (R67). -/
def Obligations.GroupIsComputedAndHanded : Prop :=
  (∀ (g : Fin 3) (w : Work), w.st.du.mode ≠ .start →
    let s := w.st
    let old := s.lu.read g
    let new := s.groupNow g
    let r := computeGroup g w
    let t := r.st
    let faulty (x : FallbackCause) : Prop := x = .sectionInvalid ∨ x = .noCurve ∨ x = .sensorSuspect
    t.lu.read g = new ∧ (∀ k, k ≠ g → t.lu.read k = s.lu.read k)
      ∧ ((s.groupRec g).configured = false →
          new.quality = .fallback ∧ new.cause = .notConfigured ∧ new.load = none ∧ new.fraction = none
            ∧ new.ratio = s.groupsInForce.fallbackRatio ∧ new.overload = false ∧ new.service = 0
            ∧ new.bellows = old.bellows)
      ∧ (new.overload = true → old.overload = false → s.raised t .overload (g.val + 1))
      ∧ (new.overload = false ∨ old.overload = true → t.occurrences .overload = s.occurrences .overload)
      ∧ (faulty new.cause → ¬ faulty old.cause → s.raised t .loadFallback (g.val + 1))
      ∧ (¬ faulty new.cause ∨ faulty old.cause →
          t.occurrences .loadFallback = s.occurrences .loadFallback)
      ∧ ((t.nu.notice .overload).present = true ↔ ∃ k, (t.lu.read k).overload = true)
      ∧ ((t.nu.notice .loadFallback).present = true ↔ ∃ k, faulty (t.lu.read k).cause)
      ∧ (∀ h ∈ w.todo, h ∈ r.todo) ∧ (new.service ≠ old.service → HandOff.btService g ∈ r.todo)
      ∧ (new.load ≠ old.load ∨ new.quality ≠ old.quality
            ∨ (s.groupRec g).rated ≠ (s.su.inputs.loads.read g).rated →
          HandOff.su (.load g { load := new.load, rated := (s.groupRec g).rated, quality := new.quality })
            ∈ r.todo)
      ∧ (new.load ≠ old.load ∨ new.quality ≠ old.quality → HandOff.scLoad g new.load new.quality ∈ r.todo)
      ∧ t.tables = s.tables ∧ t.bt = s.bt ∧ t.tu = s.tu ∧ t.su = s.su ∧ t.sc = s.sc ∧ t.si = s.si) ∧
  (∀ (g : Fin 3) (w : Work),
    let copied := w.setLu (w.st.lu.write g { w.st.lu.read g with bellows := w.st.filteredBellows g })
    (w.st.du.mode = .start → bellowsHanded g w = copied ∧ computeGroup g w = w) ∧
    (w.st.du.mode ≠ .start → bellowsHanded g w = computeGroup g copied)) ∧
  (∀ (g : Fin 3) (w : Work) (pulse : Bool),
    (∀ x, w.st.su.inputs.loads.read g = x → handle pulse (.su (.load g x)) w = w) ∧
    (∀ l q, w.st.sc.loads.read g = l → w.st.sc.qualities.read g = q →
      handle pulse (.scLoad g l q) w = w)) ∧
  (∀ (g : Fin 3) (s : State) (n : Nat) (pulse : Bool), s.du.mode ≠ .start → s.loadsCurrent →
    s.su.inputs.loads.read g =
      { load := (s.lu.read g).load, rated := (s.groupRec g).rated, quality := (s.lu.read g).quality } →
    s.sc.loads.read g = (s.lu.read g).load → s.sc.qualities.read g = (s.lu.read g).quality →
      settle (n + 2) pulse (computeGroup g { st := s, todo := [] }) = { st := s, todo := [] })

/-! ### Brake targets -/

/-- The limit (R81), the same for all channels: the smaller of P_ceil in force and the reservoir's last
value while its record is GOOD, P_ceil otherwise; P_ceil in force is the stored one while GROUPS is valid
and 850 while it is invalid. The merge (R82, R83): for a configured channel that is not under test, BT's
recomputation makes the target what the five steps give. -/
def Obligations.LimitAndMerge : Prop :=
  (∀ s : State,
    let ceil := if s.valid .groups then s.tables.groups.ceiling else 850
    (∀ v : Nat, (s.record .reservoir).state = .good → (s.record .reservoir).last = some (v : Int) →
      s.limit = min ceil v) ∧
    ((s.record .reservoir).state ≠ .good → s.limit = ceil) ∧ s.limit ≤ ceil) ∧
  (∀ (w : Work) (c : Fin 6), (w.st.channel c).configured = true → w.st.du.mode ≠ .start →
    w.st.bt.check.under ≠ some c →
      let s := w.st
      let g := groupOf c
      let raised := max (s.lu.read g).service (s.su.demand.read c)
      let t := ((recomputeChannel c w).st.channel c).target
      (s.du.mode = .emergency → t = s.limit) ∧
      (s.du.mode ≠ .emergency → s.tu.deflated.read g = true → ∀ cap, (s.groupRec g).cap = some cap →
        t = min (min raised cap) s.limit) ∧
      (s.du.mode ≠ .emergency → s.tu.deflated.read g = false ∨ (s.groupRec g).cap = none →
        t = min raised s.limit) ∧
      t ≤ s.limit)

/-- The timers of BT: a refresh expiry offers the current target and starts the timer again at 50 ms, the
target becoming the last commanded value when the message is placed (R86, R87), an OFF port refusing it; a
change of target at the moment of the expiry is offered too, and leaves the expiry its own offer (R87); a
deviation expiry turns the fault flag (R89); a step expiry fails the channel under test and begins the next
configured one with RISE at the smaller of 100 and the limit (R94, R96). -/
def Obligations.BrakeTimerCommands : Prop :=
  (∀ (s : State) (c : Fin 6), s.ready →
    ((s.channel c).refresh.due = true → s.du.mode ≠ .start → (s.channel c).configured = true →
      ((∀ m ∈ (s.port .wb).queue, m.sending = true ∨ m.replacedBy (commandMsg s c) = false) →
        s.roomFor .wb 1 →
        ∃ t, exec (.refreshTimerExpiry c) s = .next t
          ∧ (t.port .wb).queue = (s.port .wb).queue ++ [commandMsg s c]
          ∧ (t.channel c).refresh = .running 50 ∧ (t.channel c).target = (s.channel c).target
          ∧ (t.channel c).lastCommanded = some (s.channel c).target
          ∧ (∀ d, d ≠ c → t.channel d = s.channel d) ∧ t.su = s.su ∧ t.du = s.du ∧ t.si = s.si
          ∧ t.tables = s.tables ∧ s.SameBackground t) ∧
      ((s.port .wb).on = false →
        exec (.refreshTimerExpiry c) s = .next (s.setBt { s.bt with
          channels := s.bt.channels.write c { s.channel c with refresh := .running 50 } }))) ∧
    ((s.channel c).deviation.due = true → s.calm →
      ∃ t, exec (.deviationTimerExpiry c) s = .next t ∧ (t.channel c).fault = !(s.channel c).fault
        ∧ ((s.channel c).fault = false → s.raised t .channelFault (c.val + 1))
        ∧ ((t.nu.notice .channelFault).present = true ↔ ∃ d, (t.channel d).fault = true)
        ∧ (∀ d, d ≠ c → (t.channel d).fault = (s.channel d).fault) ∧ t.tables = s.tables
        ∧ s.SameBackground t) ∧
    (∀ d, s.bt.check.stepTimer.due = true → s.bt.check.under = some c → s.du.mode ≠ .start →
      (s.channel c).configured = true → c < d → (s.channel d).configured = true →
      (∀ e, c < e → e < d → (s.channel e).configured = false) →
        ∃ t, exec .stepTimerExpiry s = .next t ∧ (t.channel c).result = .failed
          ∧ (t.channel c).target = s.merged c ∧ (t.channel d).target = min 100 s.limit
          ∧ t.bt.check = { s.bt.check with
              under := some d, step := some .rise, stepTimer := .running 300 }
          ∧ t.tables = s.tables ∧ t.su = s.su ∧ t.du = s.du ∧ s.SameBackground t)) ∧
  (∀ (c : Fin 6) (x : Nat) (w : Work),
    let r := setTarget c x w
    (r.st.channel c).target = x ∧
    (w.st.roomFor .wb 1 → x ≠ (w.st.channel c).target → (w.st.channel c).lastCommanded ≠ some x →
      (r.st.channel c).lastCommanded = some x
        ∧ (∃ m ∈ (r.st.port .wb).queue, m.kind = kModulator ∧ m.own = true ∧ m.sending = false
            ∧ m.hdr.selector.toNat = c.val + 1 ∧ m.hdr.priority = 1 ∧ m.data = natHalf x)
        ∧ (r.st.channel c).refresh =
            if (w.st.channel c).refresh = .running 0 then .running 0 else .running 50) ∧
    ((w.st.port .wb).on = false → x ≠ (w.st.channel c).target →
      (r.st.channel c).lastCommanded = (w.st.channel c).lastCommanded
        ∧ r.st.port .wb = w.st.port .wb))

/-- CHECK_PATH (R93, R94, R182): while the check is eligible the request takes the long-operation slot; a
running check goes on; otherwise a check begins with RISE on the first configured channel. Not eligible, it
is answered NOT_STATIONARY. That the request is executed also while the port of its source is OFF is the
model's choice (log 15). -/
def Obligations.CheckPathCommand : Prop :=
  ∀ (s : State) (src : Source) (tag : Byte), s.takesRequests →
    let slot : LongOp := { kind := .checkPath, src := src, code := 0x20, tag := tag }
    (s.eligible = true → s.bt.check.overall = .running →
      exec (.checkPath src tag) s = .next ((s.setMe { s.me with slot := some slot }).setBt
        { s.bt with check := { s.bt.check with requestPending := true } })) ∧
    (∀ c, s.eligible = true → s.bt.check.overall ≠ .running → s.slow →
      (s.channel c).configured = true → (∀ d, d < c → (s.channel d).configured = false) →
        ∃ t, exec (.checkPath src tag) s = .next t ∧ t.me.slot = some slot
          ∧ t.bt.check = { overall := .running, under := some c, step := some .rise,
                           stepTimer := .running 300, requestPending := true }
          ∧ (t.channel c).target = min 100 s.limit ∧ t.tables = s.tables ∧ s.SameBackground t) ∧
    (s.eligible = false → s.answers (.checkPath src tag) src 0x20 tag .notStationary [])

/-- The path check by its events (R88, R91, R92, R94 to R97). A feedback value is judged for deviation: by
more than 60 kPa it runs the 500 ms toward a fault or breaks the 500 ms toward its clearing. In RISE a
value of 80 or more begins FALL with target 0; in FALL one of 20 or less passes the channel; a channel that
leaves the test takes its merged target, and the next configured one begins with RISE, or the check is
complete: PASSED when every configured channel passed, otherwise FAILED with PATH_CHECK_FAILED, and a
pending request is answered DONE with the results, whose bytes are the model's reading (log 12). When the
configured fields in force change (R80), every channel follows; one that becomes unconfigured holds target
0, no fault and NOT_RUN with its timers stopped, leaves the test, and is offered no command. An automatic
run starts at an eligibility that finds NOT_RUN, and a loss of eligibility aborts a running check, a
pending request being answered ABORTED. -/
def Obligations.PathCheckSteps : Prop :=
  (∀ (c : Fin 6) (w : Work) (f k : Nat), (w.st.channel c).configured = true →
    (w.st.record (.feedback c)).state = .good → (w.st.channel c).feedback = some f →
    (w.st.channel c).lastCommanded = some k →
      let old := w.st.channel c
      let deviating : Bool := decide (60 < f - k) || decide (60 < k - f)
      let new := (judgeDeviation c w).st.channel c
      new.deviation =
          (if deviating = old.fault then .stopped
           else match old.deviation with | .running n => .running n | _ => .running 500)
        ∧ new = { old with deviation := new.deviation }
        ∧ (∀ d, d ≠ c → (judgeDeviation c w).st.channel d = w.st.channel d)) ∧
  (∀ (c : Fin 6) (v : Nat) (w : Work), w.st.du.mode ≠ .start → w.st.bt.check.under = some c →
    let t := (feedbackHanded c v w).st
    (w.st.bt.check.step = some .rise → 80 ≤ v →
      t.bt.check = { w.st.bt.check with step := some .fall, stepTimer := .running 300 }
        ∧ (t.channel c).target = 0 ∧ (t.channel c).feedback = some v) ∧
    (w.st.bt.check.step = some .rise → v < 80 →
      t.bt.check = w.st.bt.check ∧ (t.channel c).target = (w.st.channel c).target
        ∧ (t.channel c).feedback = some v) ∧
    (w.st.bt.check.step = some .fall → 20 < v →
      t.bt.check = w.st.bt.check ∧ (t.channel c).target = (w.st.channel c).target) ∧
    (w.st.bt.check.step = some .fall → v ≤ 20 → (w.st.channel c).configured = true →
      (t.channel c).result = .passed ∧ (t.channel c).target = w.st.merged c
        ∧ ∀ d, c < d → (w.st.channel d).configured = true →
            (∀ e, c < e → e < d → (w.st.channel e).configured = false) →
            t.bt.check.under = some d)) ∧
  (∀ (c : Fin 6) (v : Nat) (w : Work), w.st.bt.check.under ≠ some c →
    (feedbackHanded c v w).st.bt.check = w.st.bt.check ∧
      ((feedbackHanded c v w).st.channel c).feedback = some v) ∧
  (∀ (c : Fin 6) (r : PathResult) (w : Work), w.st.du.mode ≠ .start →
    (w.st.channel c).configured = true → w.st.bt.check.under = some c → w.st.bt.check.overall = .running →
      let t := (leaveTest c r w).st
      (t.channel c).result = r ∧ (t.channel c).target = w.st.merged c ∧
      (∀ d, c < d → (w.st.channel d).configured = true →
        (∀ e, c < e → e < d → (w.st.channel e).configured = false) →
          (t.channel d).target = min 100 w.st.limit
            ∧ t.bt.check = { w.st.bt.check with
                under := some d, step := some .rise, stepTimer := .running 300 }) ∧
      ((∀ d, c < d → (w.st.channel d).configured = false) →
        let passed := ∀ d, (t.channel d).configured = true → (t.channel d).result = .passed
        t.bt.check.under = none ∧ t.bt.check.step = none ∧ t.bt.check.stepTimer = .stopped
          ∧ t.bt.check.requestPending = false
          ∧ (passed → t.bt.check.overall = .passed
              ∧ t.occurrences .pathCheckFailed = w.st.occurrences .pathCheckFailed)
          ∧ (¬ passed → t.bt.check.overall = .failed ∧ (t.nu.notice .pathCheckFailed).present = true
              ∧ w.st.raised t .pathCheckFailed 0)
          ∧ (∀ op, w.st.bt.check.requestPending = true → w.st.me.slot = some op →
              t.me.slot = none ∧
              (let results := byteOf t.bt.check.overall.code
                  :: channels.map (fun d => byteOf (t.channel d).result.code)
               let segs := w.st.replySegments op.code op.tag .done results
               w.st.roomFor (sourcePort op.src) (segs.length + 2) →
                 ∀ m ∈ segs, m ∈ (t.port (sourcePort op.src)).queue)))) ∧
  (∀ w : Work,
    (w.st.eligible = true ↔ (w.st.du.mode = .normal ∨ w.st.du.mode = .fallback)
      ∧ w.st.si.motion = .stationary ∧ w.st.du.inEffect = 0) ∧
    (∀ c, w.st.eligible = true → w.st.bt.check.overall = .notRun → (w.st.channel c).configured = true →
      (∀ d, d < c → (w.st.channel d).configured = false) →
        let t := (judgeEligible w).st
        t.bt.check = { w.st.bt.check with
            overall := .running, under := some c, step := some .rise, stepTimer := .running 300 }
          ∧ (t.channel c).target = min 100 w.st.limit ∧ ∀ d, (t.channel d).result = .notRun) ∧
    (w.st.eligible = true → w.st.bt.check.overall ≠ .notRun → judgeEligible w = w) ∧
    (w.st.eligible = false → w.st.bt.check.overall ≠ .running → judgeEligible w = w) ∧
    (w.st.eligible = false → w.st.bt.check.overall = .running →
      let t := (judgeEligible w).st
      t.bt.check = { overall := .notRun, under := none, step := none, stepTimer := .stopped
                     requestPending := false }
        ∧ (∀ d, (t.channel d).result = .notRun)
        ∧ (∀ c, w.st.bt.check.under = some c → w.st.du.mode ≠ .start → (w.st.channel c).configured = true →
            (t.channel c).target = w.st.merged c)
        ∧ (∀ op, w.st.bt.check.requestPending = true → w.st.me.slot = some op → t.me.slot = none ∧
            (w.st.roomFor (sourcePort op.src)
                ((w.st.replySegments op.code op.tag .aborted []).length + 1) →
              ∀ m ∈ w.st.replySegments op.code op.tag .aborted [],
                m ∈ (t.port (sourcePort op.src)).queue)))) ∧
  (∀ w : Work,
    let now (c : Fin 6) : Bool := (w.st.groupRec (groupOf c)).configured
    let t := (followGroups w).st
    (∀ c, (t.channel c).configured = now c) ∧
    (∀ c, (w.st.channel c).configured = true → now c = false →
      t.channel c = { w.st.channel c with
          configured := false, target := 0, refresh := .stopped, deviation := .stopped, fault := false
          result := .notRun }
        ∧ t.bt.check.under ≠ some c
        ∧ ∀ m ∈ (t.port .wb).queue, m.kind = kModulator → m.hdr.selector.toNat = c.val + 1 →
            m ∈ (w.st.port .wb).queue))

/-! ### Tyres and learning -/

/-- The compensated pressure (R105): of 1..1400 and 0 it is the rounded quotient less 101, with a negative
result 0 and one above 1400 taken as 1400; the divisor is at least 233; at 20 degrees it is the pressure;
and the rule's worked rows. The bands (R106), with the settings in range: the raw band of q, kept as R106's
table says until q has left it by 20. -/
def Obligations.CompensationAndBands : Prop :=
  ((∀ (p : Nat) (t : Int), p ≤ 1400 → -40 ≤ t → t ≤ 150 →
    233 ≤ t + 273 ∧
    ∃ a : Int, 2 * (((p : Int) + 101) * 293) < (2 * a + 1) * (t + 273)
      ∧ (2 * a - 1) * (t + 273) ≤ 2 * (((p : Int) + 101) * 293)
      ∧ (compensate p t : Int) = clampInt 0 1400 (a - 101)) ∧
  (∀ p : Nat, p ≤ 1400 → compensate p 20 = p) ∧
  compensate 780 60 = 674 ∧ compensate 690 20 = 690 ∧ compensate 650 (-10) = 736
    ∧ compensate 1400 (-40) = 1400 ∧ compensate 0 150 = 0) ∧
  (∀ (t : WheelsTable) (q : Nat), tyreSettingsOk t = true →
    (∀ b : WheelState, b = .unheard ∨ b = .missing ∨ b = .normal →
      (bandAfter t b q = .deflated ↔ q < t.qDefl) ∧ (bandAfter t b q = .low ↔ t.qDefl ≤ q ∧ q < t.qLow) ∧
      (bandAfter t b q = .high ↔ t.qHigh ≤ q) ∧ (bandAfter t b q = .normal ↔ t.qLow ≤ q ∧ q < t.qHigh)) ∧
    (bandAfter t .low q = .normal ↔ t.qLow + 20 ≤ q ∧ q < t.qHigh) ∧
    (bandAfter t .low q = .low ↔ t.qDefl ≤ q ∧ q < t.qLow + 20) ∧
    (bandAfter t .deflated q = .deflated ↔ q < t.qDefl + 20) ∧
    (bandAfter t .deflated q = .low ↔ t.qDefl + 20 ≤ q ∧ q < t.qLow + 20) ∧
    (bandAfter t .high q = .high ↔ t.qHigh ≤ q + 20) ∧
    (bandAfter t .high q = .low ↔ t.qDefl ≤ q ∧ q < t.qLow))

/-- What a report brings about. The fast-leak flag (R107): between two reports 1 to 600,000 ms apart it is
set at a rate of the threshold or more and cleared below half of it; otherwise it holds. A change of a
record (R109 to R112): an entry into a state raises its notice with the position, a newly set fast-leak
flag TYRE_FAST_LEAK, the conditions are present while some record has the state or the flag; one WHEEL
DETAIL of R197's layout is offered on FL when state, fast-leak flag or low-battery flag changed, none
otherwise. The group states and the worst tyre state count the records configured in force. Axle, side and
placement are the stored record's, while WHEELS is invalid too (the model's choice, log 39), and the bytes
of an absent pressure or temperature are 0 (the model's choice, log 48). -/
def Obligations.LeaksAndWheelReports : Prop :=
  (∀ (threshold pc : Nat) (r : WheelRun) (now : Word), 1 ≤ threshold →
    (∀ (before : Nat) (t : Word), r.pressure = some before → r.time = some t →
      let dt := (now - t).toNat
      let lost : Int := ((before : Int) - pc) * 60000
      (1 ≤ dt → dt ≤ 600000 →
        (r.leak = false → (leakAfter threshold r pc now = true ↔ (threshold : Int) * dt ≤ lost)) ∧
        (r.leak = true →
          (leakAfter threshold r pc now = false ↔ lost < (((threshold + 1) / 2 * dt : Nat) : Int)))) ∧
      (dt = 0 ∨ 600000 < dt → leakAfter threshold r pc now = r.leak)) ∧
    (r.pressure = none ∨ r.time = none → leakAfter threshold r pc now = r.leak)) ∧
  (∀ (p : Fin 24) (old : WheelRun) (w : Work),
    let s := w.st
    let new := s.wheel p
    let t := (wheelChanged p old w).st
    let changed := old.state ≠ new.state ∨ old.leak ≠ new.leak ∨ old.lowBattery ≠ new.lowBattery
    (∀ x ∈ [(WheelState.low, NoticeKind.tyreLow), (.deflated, .tyreDeflated), (.high, .tyreHigh),
            (.missing, .tyreMissing)],
      (new.state = x.1 → old.state ≠ x.1 → s.raised t x.2 (p.val + 1)) ∧
      (new.state ≠ x.1 ∨ old.state = x.1 → t.occurrences x.2 = s.occurrences x.2) ∧
      ((t.nu.notice x.2).present = true ↔ ∃ k, (s.wheel k).state = x.1)) ∧
    (new.leak = true → old.leak = false → s.raised t .tyreFastLeak (p.val + 1)) ∧
    (new.leak = false ∨ old.leak = true →
      t.occurrences .tyreFastLeak = s.occurrences .tyreFastLeak) ∧
    ((t.nu.notice .tyreFastLeak).present = true ↔ ∃ k, (s.wheel k).leak = true) ∧
    (¬ changed → t.lr.ports = s.lr.ports) ∧
    (changed → s.roomFor .fl 4 → ∃ m ∈ (t.port .fl).queue, m.kind = kWheelDetail ∧ m.hdr.priority = 5
      ∧ m.hdr.selector.toNat = p.val + 1 ∧ m.hdr.target = 0 ∧ m.hdr.origin = s.posField
      ∧ m.data =
          [byteOf (new.state.code + 8 * bit new.leak + 16 * bit new.lowBattery
              + 32 * bit new.pressure.isSome + 64 * bit new.temperature.isSome)]
            ++ natHalf (new.pressure.getD 0)
            ++ [match new.temperature with | none => 0 | some x => BitVec.ofInt 8 (x + 40)]
            ++ [byteOf ((s.wheelRec p).axle % 4 + 4 * (s.wheelRec p).side.code
              + 8 * (s.wheelRec p).placing.code)]) ∧
    (∀ k, t.wheel k = s.wheel k) ∧ t.tables = s.tables ∧
    (∀ g, t.tu.deflated.read g = s.groupHas g .deflated ∧ t.tu.low.read g = s.groupHas g .low) ∧
    (∀ g, s.groupHas g .deflated ≠ s.tu.deflated.read g →
      HandOff.btCap g ∈ (wheelChanged p old w).todo) ∧
    t.tu.worst = s.worstNow) ∧
  (∀ s : State,
    (∀ g st, s.groupHas g st = true ↔ ∃ p, s.valid .wheels = true ∧ (s.wheelRec p).configured = true
      ∧ (s.wheelRec p).group = g ∧ (s.wheel p).state = st) ∧
    (let holds (st : WheelState) : Prop := ∃ p, s.wheelConfigured p = true ∧ (s.wheel p).state = st
     let order : List WheelState := [.deflated, .low, .missing, .high, .unheard, .unlearned]
     (∀ a x z, order = a ++ x :: z → (s.worstNow = x ↔ holds x ∧ ∀ y ∈ a, ¬ holds y)) ∧
     (s.worstNow = .normal ↔ ∀ x ∈ order, ¬ holds x)))

/-- TYRE_REPORT of a sensor that a record configured in force holds (R104 to R107, R110 to R112): the
record takes state, fast-leak flag, compensated pressure, temperature, time, low-battery flag and a full
missing timer, which a tick of the same moment does not touch (R108); no other record changes; the group
states and the worst state are derived again. A report of another selector, one too short, one of a record
not configured in force, and an unknown one while no learn listens, are discarded: no unit changes, and
nothing at all where the route has no forward. -/
def Obligations.TyreReportIsAccepted : Prop :=
  (∀ (s : State) (h : Header) (d : List Byte) (f : TyreFields) (p : Fin 24),
    s.ready → s.calm → s.routesTo .wb { kind := kTyre, hdr := h, data := d } .tu →
    h.selector = 0 → readTyre d = some f → s.positionOf f.sensorId = some p → s.wheelConfigured p = true →
      let settings := s.tables.wheels
      let pc := compensate f.pressure f.temperature
      ∃ t, exec (.tyreReport h d) s = .next t
        ∧ (t.wheel p).state = bandAfter settings (s.wheel p).state (pc * 1000 / (s.wheelRec p).nominal)
        ∧ (t.wheel p).leak = leakAfter settings.leak (s.wheel p) pc s.time
        ∧ (t.wheel p).pressure = some pc ∧ (t.wheel p).temperature = some f.temperature
        ∧ (t.wheel p).time = some s.time ∧ (t.wheel p).lowBattery = f.lowBattery
        ∧ (t.wheel p).missing = some settings.missing ∧ t.tu.justLoaded.read p = s.tu.tickDue
        ∧ (∀ k, k ≠ p → t.wheel k = s.wheel k)
        ∧ (∀ g, t.tu.deflated.read g = t.groupHas g .deflated ∧ t.tu.low.read g = t.groupHas g .low)
        ∧ t.tu.worst = t.worstNow ∧ t.tu.learn = s.tu.learn ∧ t.tables = s.tables ∧ s.SameGround t) ∧
  (∀ (s : State) (h : Header) (d : List Byte) (i : Fin 64),
    s.ready → s.receives .wb = true → s.hit .wb { kind := kTyre, hdr := h, data := d } = some i →
    (s.lr.routes.read i).entry.consumer = .tu →
    (h.selector ≠ 0 ∨ d.length < 8 ∨ ∃ f, readTyre d = some f ∧
      ((∃ p, s.positionOf f.sensorId = some p ∧ s.wheelConfigured p = false)
        ∨ (s.positionOf f.sensorId = none ∧ s.tu.learn.state = .idle))) →
      (∃ t, exec (.tyreReport h d) s = .next t ∧ t.tu = s.tu ∧ t.si = s.si ∧ t.du = s.du ∧ t.lu = s.lu
        ∧ t.bt = s.bt ∧ t.su = s.su ∧ t.me = s.me ∧ t.ts = s.ts ∧ t.tables = s.tables ∧ s.SameGround t) ∧
      ((s.lr.routes.read i).entry.toFL = false → (s.lr.routes.read i).entry.toRL = false →
        exec (.tyreReport h d) s = .next (s.usedAt i)))

/-- A TYRE_REPORT of a sensor that no record holds, while a learn listens (R117, R118): its entry is made
or counted; an entry of 3 reports with a rapid change is assigned to the learn position, ends the learn and
raises LEARN_DONE with the position. The candidate list after an unknown report (R117): an entry that
stands is counted to 255 at most and remembers a rapid change; a new one is the youngest at count 1, the
oldest leaving a full list. -/
def Obligations.UnknownReportIsLearned : Prop :=
  (∀ (s : State) (h : Header) (d : List Byte) (f : TyreFields) (p : Fin 24) (e : Candidate),
    s.ready → s.calm → s.routesTo .wb { kind := kTyre, hdr := h, data := d } .tu →
    h.selector = 0 → readTyre d = some f → s.positionOf f.sensorId = none →
    s.tu.learn.state = .listening → s.tu.learn.position = some p → s.wheelConfigured p = true →
    (updateCandidates s.time f s.tu.learn.candidates).find? (·.sensorId == f.sensorId) = some e →
      ∃ t, exec (.tyreReport h d) s = .next t
        ∧ (3 ≤ e.count ∧ e.rapidSeen = true →
            (t.wheelRec p).sensorId = some f.sensorId ∧ (∀ k, k ≠ p → t.wheelRec k = s.wheelRec k)
              ∧ t.tu.learn.state = .idle ∧ t.tu.learn.outcome = .assigned ∧ t.tu.learn.position = some p
              ∧ t.tu.learn.candidates = [] ∧ t.tu.learn.timeout = .stopped
              ∧ (t.wheel p).pressure = some (compensate f.pressure f.temperature)
              ∧ (t.wheel p).time = some s.time ∧ s.raised t .learnDone (p.val + 1))
        ∧ (¬ (3 ≤ e.count ∧ e.rapidSeen = true) →
            t.tables = s.tables ∧ t.tu.wheels = s.tu.wheels
              ∧ t.tu.learn = { s.tu.learn with
                  candidates := updateCandidates s.time f s.tu.learn.candidates })
        ∧ s.SameGround t) ∧
  (∀ (now : Word) (f : TyreFields) (l : List Candidate),
    (∀ a x z, l = a ++ x :: z → x.sensorId = f.sensorId → (∀ e ∈ a ++ z, e.sensorId ≠ f.sensorId) →
      updateCandidates now f l
        = a ++ { x with count := min (x.count + 1) 255, rapidSeen := x.rapidSeen || f.rapid } :: z) ∧
    ((∀ e ∈ l, e.sensorId ≠ f.sensorId) →
      let fresh : Candidate := { sensorId := f.sensorId, count := 1, rapidSeen := f.rapid, firstSeen := now }
      (l.length < 8 → updateCandidates now f l = l ++ [fresh]) ∧
      (∀ x z, l = x :: z → l.length = 8 → updateCandidates now f l = z ++ [fresh])))

/-- LEARN_WHEEL in maintenance (R116), CANCEL_LEARN (R120) and LEARN_TIMEOUT (R119): what each does to the
learn state, with its reply or its notice; a position outside 1..24 or not configured in force is
BAD_PARAM; no table and no brake or stability state changes. SECOND_TICK (R108): while MOVING every running
missing timer loses one second, but for one loaded at the moment of the tick; otherwise none does; and
MISSING_TIMER_EXPIRY: the record becomes MISSING with its timer stopped and its last values kept. -/
def Obligations.LearnAndMissingTimers : Prop :=
  (∀ (s : State) (src : Source) (tag : Byte),
    (∀ p : Fin 24, s.takesWrites → s.wheelConfigured p = true →
      (s.tu.learn.state = .idle → s.roomForReply src 0x21 tag .done [] →
        exec (.learnWheel src tag (entryByte p)) s = .next ((s.setTu { s.tu with learn :=
          { state := .listening, position := some p, outcome := s.tu.learn.outcome,
            timeout := .running 120000, candidates := [] } }).replied src 0x21 tag .done [])) ∧
      (s.tu.learn.state = .listening → s.answers (.learnWheel src tag (entryByte p)) src 0x21 tag .busy [])) ∧
    (∀ p : Fin 24, s.takesWrites → s.wheelConfigured p = false →
      s.answers (.learnWheel src tag (entryByte p)) src 0x21 tag .badParam []) ∧
    (∀ b : Byte, s.takesWrites → b.toNat = 0 ∨ 24 < b.toNat →
      s.answers (.learnWheel src tag b) src 0x21 tag .badParam []) ∧
    (s.takesRequests → s.tu.learn.state = .listening → s.roomForReply src 0x22 tag .done [1] →
      exec (.cancelLearn src tag) s = .next ((s.setTu { s.tu with learn :=
        { state := .idle, position := s.tu.learn.position, outcome := .cancelled, timeout := .stopped,
          candidates := [] } }).replied src 0x22 tag .done [1])) ∧
    (s.takesRequests → s.tu.learn.state = .idle → s.answers (.cancelLearn src tag) src 0x22 tag .done [0]) ∧
    (s.ready → s.tu.learn.timeout.due = true →
      ∃ t, exec .learnTimeout s = .next t
        ∧ t.tu = { s.tu with learn :=
            { state := .idle, position := s.tu.learn.position, outcome := .timeout, timeout := .stopped,
              candidates := [] } }
        ∧ (∀ p, s.tu.learn.position = some p → s.raised t .learnTimeout (p.val + 1))
        ∧ t.tables = s.tables ∧ t.bt = s.bt ∧ t.su = s.su ∧ t.me = s.me ∧ s.SameBackground t)) ∧
  (∀ s : State, s.ready →
    (s.tu.tickDue = true →
      ∃ t, exec .secondTick s = .next t ∧ t = s.setTu t.tu ∧ t.tu.tickDue = false
        ∧ (∀ p, t.wheel p = if s.si.motion = .moving ∧ s.tu.justLoaded.read p = false then
            { s.wheel p with missing := (s.wheel p).missing.map (· - 1) } else s.wheel p)
        ∧ (∀ p, t.tu.justLoaded.read p = false)
        ∧ t.tu.learn = s.tu.learn ∧ t.tu.worst = s.tu.worst) ∧
    (∀ p, (s.wheel p).missing = some 0 → s.calm →
      ∃ t, exec (.missingTimerExpiry p) s = .next t
        ∧ t.wheel p = { s.wheel p with state := .missing, missing := none }
        ∧ (∀ k, k ≠ p → t.wheel k = s.wheel k) ∧ t.tu.worst = t.worstNow ∧ t.tables = s.tables
        ∧ ((s.wheel p).state ≠ .missing → s.raised t .tyreMissing (p.val + 1))
        ∧ (t.nu.notice .tyreMissing).present = true
        ∧ s.SameBackground t))

/-! ### Roll stability -/

/-- What SU computes (R127, R128, R129), the tables in range: F_c is the floor of the sum of the loads
times 1024 by the sum of the rated loads over the groups of GOOD quality, at most 1024, and 1024 when no
group is GOOD; a_crit lies within 150..1000, takes the table's value at each of its points and at its ends,
and between two points the straight line rounded to nearest, a half away from zero; the derate is the
largest contribution; a_eff is a_crit less the derate and at least 100; the margin is a_eff less the
magnitude of a_y. The choice of a test channel (R134): the first group of the test order whose channel on
the inner side is configured, free of fault and has a GOOD wheel-speed record. -/
def Obligations.MarginAndTestChannel : Prop :=
  (∀ (u : StabUnit) (t : StabTable), stabTableOk t = true →
    let v := u.recomputed t
    let total (value : LoadCopy → Nat) : Nat := (groupsList.map fun g =>
      if (u.inputs.loads.read g).quality = .good then value (u.inputs.loads.read g) else 0).sum
    let share (g : Fin 3) : Nat :=
      if u.inputs.deflated.read g = true then t.dDefl else if u.inputs.low.read g = true then t.dLow else 0
    v.fraction ≤ 1024
      ∧ ((∀ g, (u.inputs.loads.read g).quality ≠ .good) → v.fraction = 1024)
      ∧ ((∃ g, (u.inputs.loads.read g).quality = .good) →
          v.fraction = min (total (fun x => x.load.getD 0) * 1024 / total (fun x => x.rated)) 1024)
      ∧ (v.critical = none ↔ t.critical = [])
      ∧ (∀ a, v.critical = some a → 150 ≤ a ∧ a ≤ 1000)
      ∧ (∀ p ∈ t.critical, v.fraction = p.1 → v.critical = some (p.2 : Int))
      ∧ (∀ p z, t.critical = p :: z → v.fraction ≤ p.1 → v.critical = some (p.2 : Int))
      ∧ (∀ a p, t.critical = a ++ [p] → p.1 ≤ v.fraction → v.critical = some (p.2 : Int))
      ∧ (∀ a p q z, t.critical = a ++ p :: q :: z → p.1 ≤ v.fraction → v.fraction < q.1 →
          let product : Int := ((q.2 : Int) - p.2) * ((v.fraction : Int) - p.1)
          let span : Int := (q.1 : Int) - p.1
          ∃ k : Int, v.critical = some (p.2 + k)
            ∧ (0 ≤ product → 2 * k * span ≤ 2 * product + span ∧ 2 * product + span < (2 * k + 2) * span)
            ∧ (product < 0 → 2 * (-k) * span ≤ 2 * (-product) + span
                ∧ 2 * (-product) + span < (2 * (-k) + 2) * span))
      ∧ (∀ g, share g ≤ v.derate) ∧ (∃ g, v.derate = share g)
      ∧ (∀ a, v.critical = some a → v.threshold = some (max (a - v.derate) 100))
      ∧ (∀ e y, v.threshold = some e → u.inputs.ay = some y → v.margin = some (e - |y|))
      ∧ (v.margin = none ↔ t.critical = [] ∨ u.inputs.ay = none)) ∧
  (∀ (s : State) (sd : Side) (c : Fin 6),
    let usable (d : Fin 6) : Prop := s.su.inputs.configured.read d = true
      ∧ s.su.inputs.fault.read d = false ∧ s.su.inputs.wheel.read d = .good
    (s.testChoice sd = some c ↔
      ∃ a g z, s.stabInForce.order = a ++ g :: z ∧ c = channelOf g sd ∧ usable c
        ∧ ∀ k ∈ a, ¬ usable (channelOf k sd)) ∧
    (s.testChoice sd = none ↔ ∀ g ∈ s.stabInForce.order, ¬ usable (channelOf g sd)) ∧
    (s.innerSide = some .left ↔ ∃ y, s.su.inputs.ay = some y ∧ 0 < y) ∧
    (s.innerSide = some .right ↔ ∃ y, s.su.inputs.ay = some y ∧ y < 0))

/-- The pulse and test timers (R135, R137, R138), in a state that SU has settled and whose conditions for
staying hold: a pulse ends to WATCH with the test timer running and every demand 0; the test timer reloads,
and, with the margin below m_test and a channel to test, begins a pulse on it. The reference speed is taken
as one that the test channel does not change. The minimum and release timers (R140, R141), in a state that
SU has settled and whose conditions for staying hold: the minimum timer's expiry ends the intervention when
the margin is m_watch or more and is remembered otherwise; a release step lowers the level of the channels
that take part by the ramp-down step and starts the release timer again at 20 ms. -/
def Obligations.StabilityTimerCommands : Prop :=
  (∀ (s : State) (c : Fin 6), s.ready → s.stabSteady → s.stayHolds = true →
    s.marginBelow s.stabInForce.mInt = false → 200 ≤ s.si.vref → s.si.motion = .moving →
    (s.su.pulseTimer.due = true → s.su.state = .testing → s.su.testChannel = some c →
      s.marginFrom (s.stabInForce.mWatch + s.stabInForce.hysteresis) = false →
      (s.setSi { s.si with testChannel := none }).vrefNow = (s.si.vref, s.si.vrefQuality) →
        ∃ t, exec .pulseTimerExpiry s = .next t
          ∧ t.su = { s.su with
              state := .watch, testChannel := none, pulseTimer := .stopped
              testTimer := if s.su.testTimer = .stopped then .running s.stabInForce.tRep else s.su.testTimer
              demand := Bank.fill 6 0 }
          ∧ t.si.testChannel = none ∧ t.tables = s.tables ∧ s.SameBackground t) ∧
    (s.su.testTimer.due = true → s.su.state = .watch → s.marginBelow s.stabInForce.mTest = false →
      s.marginFrom (s.stabInForce.mWatch + s.stabInForce.hysteresis) = false →
        exec .testTimerExpiry s = .next (s.setSu { s.su with testTimer := .running s.stabInForce.tRep })) ∧
    (∀ sd, s.su.testTimer.due = true → s.su.state = .watch →
      s.marginBelow s.stabInForce.mTest = true → s.innerSide = some sd → s.testChoice sd = some c →
      (s.setSi { s.si with testChannel := some c }).vrefNow = (s.si.vref, s.si.vrefQuality) →
        ∃ t, exec .testTimerExpiry s = .next t
          ∧ t.su = { s.su with
              state := .testing, testChannel := some c, pulseTimer := .running s.stabInForce.tPulse
              testTimer := .running s.stabInForce.tRep
              demand := Bank.ofFn fun d => if d = c then s.stabInForce.pTest else 0 }
          ∧ t.si.testChannel = some c ∧ t.tables = s.tables ∧ s.SameBackground t)) ∧
  (∀ s : State, s.ready → s.stabSteady → s.stayHolds = true →
    (s.su.minTimer.due = true → s.su.state = .intervening →
      s.marginFrom s.stabInForce.mWatch = false →
        exec .minimumTimerExpiry s = .next (s.setSu { s.su with minTimer := .expired })) ∧
    (s.su.minTimer.due = true → s.su.state = .intervening → s.marginFrom s.stabInForce.mWatch = true →
      s.stabInForce.mInt ≤ s.stabInForce.mWatch →
        ∃ t, exec .minimumTimerExpiry s = .next t
          ∧ t.su = { s.su with state := .releasing, minTimer := .stopped, releaseTimer := .running 20 }
          ∧ t.bt = s.bt ∧ t.tables = s.tables ∧ s.SameBackground t) ∧
    (s.su.releaseTimer.due = true → s.su.state = .releasing →
      s.marginBelow s.stabInForce.mInt = false → s.stabInForce.rampDown < s.su.level →
        ∃ t, exec .releaseTimerExpiry s = .next t
          ∧ t.su = { s.su with
              level := s.su.level - s.stabInForce.rampDown, releaseTimer := .running 20
              demand := Bank.ofFn fun c =>
                if s.su.inputs.configured.read c = true ∧ s.su.inputs.fault.read c = false then
                  s.su.level - s.stabInForce.rampDown else 0 }
          ∧ t.tables = s.tables ∧ s.SameBackground t))

/-- SU at an event (R130 to R143), by the state `u` that steps 1 and 2 leave (R131). The conditions of
entry and of staying; the transitions of NORMAL, of WATCH with the choice of a test channel, of TESTING
with its lift, of INTERVENING with the ramp, and of RELEASING with the end of the release, and the ones
that failing conditions bring; INTERVENTION with the state left, TEST_UNAVAILABLE once in a watch stay, and
STABILITY_INACTIVE_FAULT at the beginning of its condition; the demands of R142 at the end. That the
condition of R143 is judged before the margin is the model's reading (log 29). -/
def Obligations.StabilityEvents : Prop :=
  ∀ (w : Work) (e : SuEvent), w.st.su.unchangedBy e = false →
    let s := w.st.afterTaking e
    let u := s.su
    let x := s.stabInForce
    let t := (stabEvent true e w).st
    let cut : Prop := u.inputs.mode = .emergency ∨ u.inputs.mode = .maintenance
    let intervened (left : StabState) (level : Nat) : Prop :=
      t.su.state = .intervening ∧ w.st.raised t .intervention left.code ∧ t.su.level = level
        ∧ t.su.minTimer = .running x.tMinInt ∧ t.su.testChannel = none ∧ t.su.pulseTimer = .stopped
        ∧ t.su.testTimer = .stopped
    let begins := min x.pIntStart x.pIntMax
    let conditions (speed : Nat) : Prop := x.enable = true ∧ s.valid .stability = true
      ∧ u.inputs.path = .passed ∧ u.inputs.lateral = .good
      ∧ (u.inputs.mode = .normal ∨ u.inputs.mode = .fallback) ∧ speed ≤ u.inputs.vref
    let inactive : Prop := t.su.state = .inactive ∧ t.su.testChannel = none ∧ t.su.level = 0
      ∧ t.su.unavailable = false ∧ t.su.pulseTimer = .stopped ∧ t.su.testTimer = .stopped
      ∧ t.su.minTimer = .stopped ∧ t.su.releaseTimer = .stopped
    (s.entryHolds = true ↔ conditions x.vGate) ∧ (s.stayHolds = true ↔ conditions (x.vGate - 500)) ∧
    (u.state = .inactive → s.entryHolds = false → t.su.state = .inactive) ∧
    (u.state = .inactive ∧ s.entryHolds = true ∨ u.state = .normal ∧ s.stayHolds = true →
      (s.marginBelow x.mInt = true → intervened .normal begins) ∧
      (s.marginBelow x.mInt = false → s.marginBelow x.mWatch = false → t.su.state = .normal) ∧
      (s.marginBelow x.mInt = false → s.marginBelow x.mWatch = true → s.marginBelow x.mTest = false →
        t.su.state = .watch ∧ t.su.unavailable = false)) ∧
    (u.state = .watch → s.stayHolds = true →
      (s.marginBelow x.mInt = true → intervened .watch begins) ∧
      (s.marginBelow x.mInt = false → s.marginFrom (x.mWatch + x.hysteresis) = true →
        s.marginBelow x.mWatch = false → s.marginBelow x.mTest = false ∨ e ≠ .testExpiry →
          t.su.state = .normal ∧ t.su.testTimer = .stopped) ∧
      (s.marginBelow x.mInt = false → s.marginFrom (x.mWatch + x.hysteresis) = false →
        s.marginBelow x.mTest = false → t.su.state = .watch ∧ t.su.testTimer = u.testTimer) ∧
      (s.marginBelow x.mInt = false → s.marginFrom (x.mWatch + x.hysteresis) = false →
        s.marginBelow x.mTest = true → u.testTimer = .stopped ∨ e = .testExpiry →
        (∀ sd c, s.innerSide = some sd → s.testChoice sd = some c →
          t.su.state = .testing ∧ t.su.testChannel = some c ∧ t.su.pulseTimer = .running x.tPulse
            ∧ t.su.testTimer = u.testTimer ∧ t.su.demand.read c = x.pTest
            ∧ ∀ d, d ≠ c → t.su.demand.read d = 0) ∧
        (∀ sd, s.innerSide = some sd → s.testChoice sd = none →
          t.su.state = .watch ∧ t.su.unavailable = true ∧
          (u.unavailable = false → w.st.raised t .testUnavailable sd.code) ∧
          (u.unavailable = true → t.occurrences .testUnavailable = w.st.occurrences .testUnavailable)) ∧
        (s.innerSide = none → t.su.state = .watch ∧ t.su.unavailable = u.unavailable))) ∧
    (u.state = .testing → s.stayHolds = true → 0 < x.liftSlip →
      let lifting : Prop := ∃ c v, e = .wheelValue c v ∧ u.testChannel = some c
        ∧ u.inputs.wheel.read c = .good ∧ 500 ≤ u.inputs.vref ∧ v < u.inputs.vref
        ∧ x.liftSlip ≤ (u.inputs.vref - v) * 1000 / u.inputs.vref
      (s.marginBelow x.mInt = true ∨ lifting → intervened .testing begins) ∧
      (s.marginBelow x.mInt = false → ¬ lifting → s.pulseLost = false → e ≠ .pulseExpiry →
        t.su.state = .testing ∧ t.su.testChannel = u.testChannel) ∧
      (s.marginBelow x.mInt = false → ¬ lifting → s.pulseLost = true ∨ e = .pulseExpiry →
        s.marginFrom (x.mWatch + x.hysteresis) = false →
          t.su.state = .watch ∧ t.su.testChannel = none ∧ t.su.pulseTimer = .stopped
            ∧ t.su.testTimer = if u.testTimer = .stopped then .running x.tRep else u.testTimer)) ∧
    (∀ c, u.testChannel = some c →
      (s.pulseLost = true ↔ u.inputs.configured.read c = false ∨ u.inputs.fault.read c = true
        ∨ u.inputs.wheel.read c ≠ .good)) ∧
    (u.state = .intervening → s.stayHolds = true →
      (u.minTimer ≠ .expired ∨ s.marginFrom x.mWatch = false →
        t.su.state = .intervening ∧ t.su.minTimer = u.minTimer ∧
        (∀ a l, e = .motionSample a l → t.su.level = min (u.level + x.rampUp) x.pIntMax) ∧
        ((∀ a l, e ≠ .motionSample a l) → t.su.level = u.level)) ∧
      (u.minTimer = .expired → s.marginFrom x.mWatch = true → s.marginBelow x.mInt = false →
        t.su.state = .releasing ∧ t.su.minTimer = .stopped ∧ t.su.releaseTimer = .running 20
          ∧ t.su.level = u.level)) ∧
    (u.state = .releasing → (s.stayHolds = true ∧ s.marginBelow x.mInt = false) ∨
        (s.stayHolds = false ∧ ¬ cut) →
      ((∃ a l, e = .motionSample a l) ∨ e = .releaseExpiry →
        (x.rampDown < u.level → t.su.state = .releasing ∧ t.su.level = u.level - x.rampDown
          ∧ t.su.releaseTimer = .running 20) ∧
        (u.level ≤ x.rampDown → t.su.level = 0 ∧ t.su.releaseTimer = .stopped ∧
          (s.stayHolds = false → inactive) ∧
          (s.stayHolds = true → s.marginFrom x.mWatch = true → s.marginBelow x.mWatch = false →
            t.su.state = .normal) ∧
          (s.stayHolds = true → s.marginFrom x.mWatch = false → s.marginBelow x.mTest = false →
            s.marginFrom (x.mWatch + x.hysteresis) = false →
            t.su.state = .watch ∧ t.su.unavailable = false))) ∧
      ((∀ a l, e ≠ .motionSample a l) → e ≠ .releaseExpiry →
        t.su.state = .releasing ∧ t.su.level = u.level)) ∧
    (u.state = .releasing → s.stayHolds = true → s.marginBelow x.mInt = true →
      intervened .releasing u.level) ∧
    (s.stayHolds = false →
      (u.state = .normal ∨ u.state = .watch ∨ u.state = .testing → inactive) ∧
      (u.state = .intervening ∨ u.state = .releasing → cut → inactive) ∧
      (u.state = .intervening → ¬ cut →
        t.su.state = .releasing ∧ t.su.minTimer = .stopped ∧ t.su.releaseTimer = .running 20
          ∧ t.su.level = u.level)) ∧
    (∀ c, t.su.demand.read c = t.demandOf c) ∧
    (u.state = .inactive → s.entryHolds = false →
      let fault : Prop := x.enable = true ∧ s.valid .stability = true ∧ x.vGate ≤ u.inputs.vref
        ∧ (u.inputs.lateral ≠ .good ∨ u.inputs.path ≠ .passed)
      ((t.nu.notice .stabilityInactiveFault).present = true ↔ fault) ∧
      (fault → (s.nu.notice .stabilityInactiveFault).present = false →
        w.st.raised t .stabilityInactiveFault
          (bit (u.inputs.lateral != .good) + 2 * bit (u.inputs.path != .passed))) ∧
      (¬ fault ∨ (s.nu.notice .stabilityInactiveFault).present = true →
        t.occurrences .stabilityInactiveFault = w.st.occurrences .stabilityInactiveFault))

/-! ### Notices -/

/-- An occurrence on its record (R147, R156, R157): the count rises to 65535 at most, the latest stamp is
the occurrence's, the first stamp stays while the flag was set; a trigger that the mask names counts to 255
at most, and its record, each quantity as its owner holds it then, is stored while there is room, by the
mode otherwise; no other record changes. -/
def Obligations.OccurrenceIsRecorded : Prop :=
  ∀ (k : NoticeKind) (d : Half) (w : Work),
    let n := w.st.nu
    let t := (recordOccurrence k d w).st.nu
    let stamp : Stamp := { detail := d, time := w.st.time }
    let captured (x : SnapTrigger) (r : Snapshot) : Prop :=
      r = { time := w.st.time, trigger := x, vref := w.st.si.vref, ay := w.st.su.inputs.ay,
            margin := w.st.su.margin, fraction := w.st.su.fraction, inEffect := w.st.du.inEffect,
            link := w.st.du.link, cause := w.st.du.cause, derate := w.st.su.derate, targets := r.targets }
        ∧ ∀ c, r.targets.read c = (w.st.channel c).target
    (t.notice k).flag = true ∧ (t.notice k).count = min ((n.notice k).count + 1) 65535
      ∧ (t.notice k).latest = some stamp
      ∧ (t.notice k).first = (if (n.notice k).flag = true then (n.notice k).first else some stamp)
      ∧ (∀ j, j ≠ k → t.notice j = n.notice j)
      ∧ (n.triggerOf .intervention = if n.maskIntervention = true then some .intervention else none)
      ∧ (n.triggerOf .emergency = if n.maskEmergency = true then some .emergency else none)
      ∧ (n.triggerOf .demandLost = if n.maskDemandLost = true then some .demandLost else none)
      ∧ (k ≠ .intervention → k ≠ .emergency → k ≠ .demandLost → n.triggerOf k = none)
      ∧ (n.triggerOf k = none → t.snapshots = n.snapshots ∧ t.triggers = n.triggers)
      ∧ (∀ x, n.triggerOf k = some x → t.triggers = min (n.triggers + 1) 255
          ∧ (n.snapshots.length < 4 → ∃ r, t.snapshots = n.snapshots ++ [r] ∧ captured x r)
          ∧ (4 ≤ n.snapshots.length → n.mode = .keepFirst → t.snapshots = n.snapshots)
          ∧ (∀ o l, n.snapshots = o :: l → 4 ≤ n.snapshots.length → n.mode = .keepLatest →
              ∃ r, t.snapshots = l ++ [r] ∧ captured x r))

/-- The raising of a kind (R147, R148, R149, R154). A raise that sets the flag of a kind whose message is
enabled offers one NOTICE on FL of R197's layout; with the flag set, the message disabled or FL OFF no
queue changes; a NOTICE that a full queue discards raises TX_OVERFLOW, whose own NOTICE, when its flag was
clear, is the one further offer. The condition-present field is set and cleared without touching flag,
count or stamps. The summary classes (R145) and what an occurrence and a clearing hand to SC. -/
def Obligations.NoticeMessages : Prop :=
  (∀ (k : NoticeKind) (d : Half) (w : Work),
    let s := w.st
    let t := (raise k d w).st
    let r := s.nu.notice k
    let overflow := s.nu.notice .txOverflow
    let message : QMsg :=
      { kind := kNotice
        hdr := { priority := 3, hop := s.posField, target := 0, origin := s.posField,
                 selector := BitVec.ofNat 12 (k.index.val + 1) }
        data := [byteOf (bit k.isCondition)] ++ halfBytes d ++ natHalf (min (r.count + 1) 65535)
          ++ [s.time.extractLsb' 16 8, s.time.extractLsb' 8 8, s.time.extractLsb' 0 8]
        own := true, restartReply := false, sending := false }
    (t.nu.notice k).flag = true ∧ (∀ j, j ≠ k → j ≠ .txOverflow → t.nu.notice j = s.nu.notice j) ∧
    (r.flag = true ∨ r.message = false ∨ (s.port .fl).on = false →
      s.raised t k d.toNat ∧ t.lr = s.lr ∧ ∀ j, j ≠ k → t.nu.notice j = s.nu.notice j) ∧
    (r.flag = false → r.message = true → s.roomFor .fl 1 →
      s.raised t k d.toNat ∧ (t.port .fl).queue = (s.port .fl).queue ++ [message]
        ∧ (∀ j, j ≠ k → t.nu.notice j = s.nu.notice j)) ∧
    (k ≠ .txOverflow → r.flag = false → r.message = true → (s.port .fl).on = true →
      (s.port .fl).queue.length = 16 → (∀ m ∈ (s.port .fl).queue, m.sending = false → m.hdr.priority ≤ 3) →
      s.raised t k d.toNat ∧ t.port .fl = s.port .fl ∧
      (overflow.flag = true ∨ overflow.message = false → s.raised t .txOverflow 0) ∧
      (overflow.flag = false → overflow.message = true →
        t.occurrences .txOverflow = min (min (overflow.count + 1) 65535 + 1) 65535))) ∧
  (∀ (k : NoticeKind) (b : Bool) (w : Work),
    let t := (setPresent k b w).st
    t.nu.notice k = { w.st.nu.notice k with present := b } ∧ (∀ j, j ≠ k → t.nu.notice j = w.st.nu.notice j)
      ∧ t = w.st.setNu { w.st.nu with records := t.nu.records }) ∧
  (NoticeKind.list.map (·.summaryBit)
      = [5, 5, 0, 1, 1, 2, 2, 2, 2, 2, 7, 7, 3, 3, 4, 0, 0, 6, 5, 5, 5, 6, 6, 3] ∧
    (∀ (n : NoticeUnit) (b : Nat), b < 8 →
      (n.classMask.testBit b = true ↔ ∃ k, k.summaryBit = b ∧ (n.notice k).flag = true)) ∧
    (∀ (k : NoticeKind) (d : Half) (w r : Work), r = recordOccurrence k d w ∨ r = clearKind k w →
      r.st.nu.lampOut = r.st.nu.lampDue ∧
      (r.st.nu.lampOut ≠ w.st.nu.lampOut → HandOff.scLive 4 (bit r.st.nu.lampOut) ∈ r.todo) ∧
      (r.st.nu.classMask ≠ w.st.nu.classMask → HandOff.scLive 10 r.st.nu.classMask ∈ r.todo) ∧
      (r.st.nu.lampOut = w.st.nu.lampOut → r.st.nu.classMask = w.st.nu.classMask → r.todo = w.todo)))

/-- CLEAR_NOTICE (R150) and CLEAR_SNAPSHOTS (R158): a condition that is present is STILL_ACTIVE; otherwise
the flag is cleared, the stamps become absent, the count stays and the reply is DONE; a number outside
1..24 is BAD_PARAM; the snapshot store is emptied with its trigger count. -/
def Obligations.NoticeClearing : Prop :=
  ∀ (s : State) (src : Source) (tag : Byte), s.takesRequests →
    (∀ k : NoticeKind, k.isCondition = true → (s.nu.notice k).present = true →
      s.answers (.clearNotice src tag (entryByte k.index)) src 0x31 tag .stillActive []) ∧
    (∀ k : NoticeKind, k.isCondition = false ∨ (s.nu.notice k).present = false →
      s.roomForReply src 0x31 tag .done [] →
      k ≠ .txOverflow ∨ s.roomFor .fl ((s.replySegments 0x31 tag .done []).length + 1) →
        ∃ t, exec (.clearNotice src tag (entryByte k.index)) s = .next t
          ∧ t.nu.notice k = { s.nu.notice k with flag := false, first := none, latest := none }
          ∧ (∀ j, j ≠ k → j ≠ .txOverflow → t.nu.notice j = s.nu.notice j)
          ∧ t.nu.lampOut = t.nu.lampDue ∧ t.nu.snapshots = s.nu.snapshots ∧ t.tables = s.tables
          ∧ t.bt = s.bt ∧ t.tu = s.tu ∧ t.su = s.su ∧ t.me = s.me ∧ s.SameBackground t
          ∧ s.placesReply t src 0x31 tag .done [] 1) ∧
    (∀ b : Byte, b.toNat = 0 ∨ 24 < b.toNat → s.answers (.clearNotice src tag b) src 0x31 tag .badParam []) ∧
    (s.roomForReply src 0x33 tag .done [] →
      exec (.clearSnapshots src tag) s
        = .next ((s.setNu { s.nu with snapshots := [], triggers := 0 }).replied src 0x33 tag .done []))

/-! ### Status -/

/-- The timers of SC (R163, R164, R165): the minimum timer's expiry with nothing pending stops it; with
news pending, and at every periodic expiry, the composed content is offered as a STATUS on FL, which makes
it the last-sent copy, starts the minimum timer and loads the periodic timer. Where both run out at one
moment, the periodic expiry taken second places the same content again and leaves what it does when it is
taken first; taken first, it takes the expiry of the minimum timer with it (log 51, the model's choice). -/
def Obligations.StatusTimerCommands : Prop :=
  ∀ s : State, s.ready →
    let sent : State := (s.appended .fl (statusMsg s)).setSc { s.sc with
      lastSent := s.content, minTimer := .running s.statusInForce.minInterval
      periodic := if s.statusInForce.periodic = 0 then .stopped else .running s.statusInForce.periodic }
    let again (t : State) : State := if s.sc.periodic.due then t.setSc { t.sc with periodic := .running 0 } else t
    (s.sc.minTimer.due = true → s.sc.pendingNews = false →
      exec .statusMinimumTimerExpiry s = .next (s.setSc { s.sc with minTimer := .stopped })) ∧
    (s.sc.minTimer.due = true → s.sc.pendingNews = true → s.sc.sending = true →
      (∃ f, (s.statusInForce.fields.read f).change = true ∧ s.content.read f ≠ s.sc.lastSent.read f) →
      s.roomFor .fl 1 → (∀ m ∈ (s.port .fl).queue, m.kind ≠ kStatus) →
        exec .statusMinimumTimerExpiry s
          = .next (again (sent.setSc { sent.sc with pendingNews := false }))) ∧
    (s.sc.periodic.due = true → s.roomFor .fl 1 → (∀ m ∈ (s.port .fl).queue, m.kind ≠ kStatus) →
      exec .statusPeriodicTimerExpiry s = .next
        (sent.setSc { sent.sc with pendingNews := s.sc.pendingNews && !s.sc.minTimer.due })) ∧
    (s.sc.minTimer.due = true → s.sc.pendingNews = true → s.sc.sending = true → s.sc.periodic.due = true →
      (∃ f, (s.statusInForce.fields.read f).change = true ∧ s.content.read f ≠ s.sc.lastSent.read f) →
      s.roomFor .fl 1 → (∀ m ∈ (s.port .fl).queue, m.kind ≠ kStatus) →
        ∃ t, exec .statusMinimumTimerExpiry s = .next t
          ∧ exec .statusPeriodicTimerExpiry t = .next (sent.setSc { sent.sc with pendingNews := false })
          ∧ exec .statusPeriodicTimerExpiry s = .next (sent.setSc { sent.sc with pendingNews := false }))

/-- STATUS (R159 to R165, R197). The composed content and its layout, the fields within their widths. News:
a difference from the last-sent copy in a field whose change flag in force is set. A judgment offers
nothing in START or without news, remembers news while the minimum timer runs, and offers otherwise. An
offer carries the composed content; Placed, by entering the queue, by replacing a waiting own STATUS of the
same origin in place, or by evicting from a full queue the youngest waiting message of the lowest priority
when that is below its own, makes it the last-sent copy and loads the periodic timer, but for one that runs
out at this moment and so places the content again (R164); Refused and Discarded leave the copy, and set
pending on the on-change path; every offer starts the minimum timer. The law of R165 over a step that takes
no frame that may be forwarded ahead: a copy that changes is all zero, or the content of a STATUS that
stands in the FL queue. -/
def Obligations.StatusContentAndNews : Prop :=
  (∀ (s : State) (f : Fin 12), s.content.read f =
    if s.valid .status = true ∧ s.sc.overridden.read f = true then (s.tables.status.fields.read f).value
    else s.sc.live.read f) ∧
  (∀ x : Bank Nat 12, (∀ f : Fin 12, x.read f < 2 ^ [4, 2, 3, 3, 1, 3, 8, 10, 8, 4, 8, 3].getD f.val 0) →
    statusData x =
      natHalf (x.read 0 * 4096 + x.read 1 * 1024 + x.read 2 * 128 + x.read 3 * 16 + x.read 4 * 8 + x.read 5)
        ++ [byteOf (x.read 6)] ++ natHalf (x.read 7 * 64 + x.read 11 * 8)
        ++ [byteOf (x.read 8), byteOf (x.read 10), byteOf (x.read 9 * 16)]) ∧
  (∀ s : State, s.isNews = true ↔ ∃ f, (s.valid .status = true →
    (s.tables.status.fields.read f).change = true) ∧ s.content.read f ≠ s.sc.lastSent.read f) ∧
  (∀ w : Work,
    (w.st.sc.sending = false ∨ w.st.isNews = false → judgeNews w = w) ∧
    (∀ n, w.st.sc.sending = true → w.st.isNews = true → w.st.sc.minTimer = .running n →
      judgeNews w = w.setSc { w.st.sc with pendingNews := true }) ∧
    (w.st.sc.sending = true → w.st.isNews = true → (∀ n, w.st.sc.minTimer ≠ .running n) →
      judgeNews w = offerStatus true w)) ∧
  (∀ (onChange : Bool) (w : Work),
    let s := w.st
    let r := offerStatus onChange w
    let least := if s.valid .status then s.tables.status.minInterval else 50
    let every := if s.valid .status then s.tables.status.periodic else 500
    let next : Timer :=
      if s.sc.periodic = .running 0 then .running 0 else if every = 0 then .stopped else .running every
    let message : QMsg :=
      { kind := kStatus
        hdr := { priority := 2, hop := s.posField, target := 0, origin := s.posField, selector := 0 }
        data := statusData s.content, own := true, restartReply := false, sending := false }
    let placed (q : List QMsg) : Work := { w with
      st := (s.setPort .fl { s.port .fl with queue := q }).setSc { s.sc with
        lastSent := s.content, minTimer := .running least, periodic := next } }
    ((s.port .fl).on = false → r = w.setSc { s.sc with
      minTimer := .running least, pendingNews := s.sc.pendingNews || onChange }) ∧
    ((s.port .fl).on = true →
      (∀ a x z, (s.port .fl).queue = a ++ x :: z → x.sending = false → x.sameClass message = true →
        (∀ m ∈ a, m.sending = true ∨ m.sameClass message = false) → r = placed (a ++ message :: z)) ∧
      ((∀ m ∈ (s.port .fl).queue, m.sending = true ∨ m.sameClass message = false) →
        ((s.port .fl).queue.length < 16 → r = placed ((s.port .fl).queue ++ [message])) ∧
        ((s.port .fl).queue.length = 16 →
          (∀ m ∈ (s.port .fl).queue, m.sending = false → m.hdr.priority ≤ 2) →
          r.st.port .fl = s.port .fl ∧ (r.st.nu.notice .txOverflow).flag = true ∧
          r.st.sc = { s.sc with
            minTimer := .running least, pendingNews := s.sc.pendingNews || onChange }) ∧
        (∀ a x z, (s.port .fl).queue = a ++ x :: z → (s.port .fl).queue.length = 16 → x.sending = false →
          2 < x.hdr.priority.toNat → (∀ m ∈ a, m.sending = false → m.hdr.priority ≤ x.hdr.priority) →
          (∀ m ∈ z, m.sending = false → m.hdr.priority < x.hdr.priority) →
            r.st.sc = { s.sc with lastSent := s.content, minTimer := .running least, periodic := next } ∧
            message ∈ (r.st.port .fl).queue ∧ (r.st.port .fl).queue.length = 16 ∧
            (r.st.nu.notice .txOverflow).flag = true ∧
            (s.occurrences .txOverflow < 65535 → s.occurrences .txOverflow < r.st.occurrences .txOverflow) ∧
            ((s.nu.notice .txOverflow).flag = true → (r.st.port .fl).queue = a ++ z ++ [message]))))) ∧
  (∀ s t : State, (∀ c rest, s.pending = c :: rest → mayForwardAhead c = false) → step s = .next t →
    t.sc.lastSent = s.sc.lastSent ∨ (∀ f, t.sc.lastSent.read f = 0) ∨
      ∃ m ∈ (t.port .fl).queue, m.own = true ∧ m.kind = kStatus ∧ m.data = statusData t.sc.lastSent)

/-- STATUS_FROM_REAR (R168): with own position p known, origin within p + 1..4 and a flag word, the rear
match state of the origin becomes whether some masked bit of the word equals the polarity's; a state newly
set raises REAR_MATCH; the states of other origins stay. While own position is unknown, at an origin up to
p or above 4, and in a frame too short for the flag word, every state stays and nothing is raised. Where
the route names FL too, the frame is forwarded, whatever SC judges: a copy with every field unchanged
stands in the FL queue (R12, R17, R20). -/
def Obligations.RearStatusIsMatched : Prop :=
  ∀ (s : State) (h : Header) (d : List Byte), s.ready →
    let f : Frame := { kind := kStatus, hdr := h, data := d }
    s.routesTo .rl f .sc →
      ∃ t, exec (.statusFromRear h d) s = .next t
        ∧ (∀ (p : Nat) (o : Fin 3), s.lr.ownPos = some p → 1 ≤ p → h.origin.toNat = o.val + 2 →
            p < h.origin.toNat → 2 ≤ d.length →
            (t.sc.rear.read o = true ↔
              ∃ i, s.statusInForce.mask.getLsbD i = true
                ∧ (halfAt d 1).getLsbD i = s.statusInForce.polarity.getLsbD i)
              ∧ (∀ q, q ≠ o → t.sc.rear.read q = s.sc.rear.read q)
              ∧ t.occurrences .rearMatch =
                  (if t.sc.rear.read o = true ∧ s.sc.rear.read o = false then
                    min (s.occurrences .rearMatch + 1) 65535 else s.occurrences .rearMatch)
              ∧ (t.sc.rear.read o = true → s.sc.rear.read o = false →
                  s.raised t .rearMatch h.origin.toNat))
        ∧ (s.lr.ownPos = none ∨ (∃ p, s.lr.ownPos = some p ∧ h.origin.toNat ≤ p) ∨ 4 < h.origin.toNat
              ∨ d.length < 2 →
            t.sc.rear = s.sc.rear ∧ t.occurrences .rearMatch = s.occurrences .rearMatch)
        ∧ (t.nu.notice .rearMatch).present = (if t.sc.rear = s.sc.rear then
            (s.nu.notice .rearMatch).present else t.sc.rear.any id)
        ∧ (∀ i, s.hit .rl f = some i → (s.lr.routes.read i).entry.toFL = true → s.roomFor .fl 4 →
            { kind := kStatus, hdr := h, data := d, own := false, restartReply := false, sending := false }
              ∈ (t.port .fl).queue)
        ∧ t.port .rl = s.port .rl ∧ t.port .wb = s.port .wb
        ∧ t.tables = s.tables ∧ t.si = s.si ∧ t.du = s.du ∧ t.bt = s.bt ∧ s.SameGround t

/-! ### Management: reading -/

/-- READ_ITEM (R178): the reply carries the item's value with its presence, ABSENT for a number that is no
item, BAD_PARAM for an index out of range; reading changes nothing but the queue of the reply. And the item
map (R177), number by number, in the orders of R60, R77, R98, R114, R122, R144, R170, R123 and R101: each
item reads its quantity at the indexes of its range and is BAD_PARAM at any other; a number not listed is
no item. The enables read are those in force (R152); a running timer reads its milliseconds left, any other
0. That a BAD_PARAM reply carries no result bytes, and an absent or undefined item presence 0 and value 0,
is the model's reading (log 12), as is that an unknown own position reads as absent (log 47). -/
def Obligations.ReadItemReplies : Prop :=
  (∀ (s : State) (src : Source) (tag : Byte) (item : Half) (i : Byte), s.takesReads →
    match readItemAt s item.toNat i.toNat with
    | .undefined => s.answers (.readItem src tag item i) src 0x01 tag .absent [0, 0, 0, 0, 0]
    | .badIndex => s.answers (.readItem src tag item i) src 0x01 tag .badParam []
    | .value none => s.answers (.readItem src tag item i) src 0x01 tag .done [0, 0, 0, 0, 0]
    | .value (some v) =>
      s.answers (.readItem src tag item i) src 0x01 tag .done (1 :: wordBytes (BitVec.ofInt 32 v))) ∧
  (∀ s : State,
    let n (x : Nat) : Option Int := some (x : Int)
    let o (x : Option Nat) : Option Int := x.map Int.ofNat
    let left (x : Timer) : Option Int := match x with | .running k => some (k : Int) | _ => some 0
    let table := s.tables
    let mask (f : Fin 7 → Bool) : Nat := ((indices 7).map fun i => bit (f i) * 2 ^ i.val).sum
    let candidate (f : Candidate → Nat) (i : Fin 8) : Option Int :=
      (s.tu.learn.candidates[i.val]?).map fun e => (f e : Int)
    (∀ x ∈ [(0x000, n 340), (0x001, n s.time.toNat), (0x002, n s.me.op.code), (0x003, o s.lr.ownPos),
      (0x004, n s.ts.generation.toNat), (0x005, n (mask s.ts.validity.read)), (0x006, n s.ts.check.code),
      (0x007, n (match s.me.slot with | none => 0 | some op => op.kind.code)),
      (0x013, n s.si.vref), (0x014, n s.si.vrefQuality.code), (0x015, n s.si.motion.code),
      (0x020, n s.du.link.code), (0x021, o (s.du.lastCounter.map (·.toNat))), (0x022, o s.du.lastDemand),
      (0x023, o s.du.lastSpeed), (0x024, n (bit s.du.chainFlag)), (0x025, n (bit s.du.parkFlag)),
      (0x026, n s.du.inEffect), (0x027, n s.du.recovery), (0x028, n (bit s.du.emergency)),
      (0x029, n s.du.cause.code), (0x02A, n s.du.mode.code),
      (0x045, n s.bt.check.overall.code), (0x046, o (s.bt.check.under.map fun c => c.val + 1)),
      (0x047, o (s.bt.check.step.map PathStep.code)), (0x059, n s.tu.worst.code),
      (0x070, n s.tu.learn.state.code), (0x071, o (s.tu.learn.position.map fun p => p.val + 1)),
      (0x072, n s.tu.learn.outcome.code), (0x073, left s.tu.learn.timeout),
      (0x074, n s.tu.learn.candidates.length),
      (0x080, n s.su.state.code), (0x081, n s.su.fraction), (0x082, s.su.critical), (0x083, n s.su.derate),
      (0x084, s.su.threshold), (0x085, s.su.margin), (0x086, o (s.su.testChannel.map fun c => c.val + 1)),
      (0x087, n s.su.level), (0x089, left s.su.pulseTimer), (0x08A, left s.su.testTimer),
      (0x08B, left s.su.minTimer), (0x08C, left s.su.releaseTimer), (0x08D, n (bit s.su.unavailable)),
      (0x092, n (bit s.sc.pendingNews)), (0x093, left s.sc.minTimer), (0x094, left s.sc.periodic),
      (0x100, n table.groups.fallbackRatio), (0x101, n table.groups.ceiling),
      (0x110, n (bit table.stability.enable)), (0x111, n table.stability.vGate),
      (0x112, n table.stability.mWatch), (0x113, n table.stability.mTest), (0x114, n table.stability.mInt),
      (0x115, n table.stability.hysteresis), (0x116, n table.stability.pTest),
      (0x117, n table.stability.tPulse), (0x118, n table.stability.tRep), (0x119, n table.stability.liftSlip),
      (0x11A, n table.stability.pIntStart), (0x11B, n table.stability.rampUp),
      (0x11C, n table.stability.pIntMax), (0x11D, n table.stability.rampDown),
      (0x11E, n table.stability.tMinInt), (0x11F, n table.stability.dLow), (0x120, n table.stability.dDefl),
      (0x121, n (orderCode table.stability.order)),
      (0x130, n table.wheels.qLow), (0x131, n table.wheels.qDefl), (0x132, n table.wheels.qHigh),
      (0x133, n table.wheels.leak), (0x134, n table.wheels.missing),
      (0x140, n table.filters.supply.filter.code), (0x141, n table.filters.supply.polarity.code),
      (0x142, n table.filters.park.filter.code), (0x143, n table.filters.park.polarity.code),
      (0x150, n table.status.minInterval), (0x151, n table.status.periodic),
      (0x152, n table.status.mask.toNat), (0x153, n table.status.polarity.toNat),
      (0x210, n s.nu.mode.code),
      (0x211, n (bit s.nu.maskIntervention + 2 * bit s.nu.maskEmergency + 4 * bit s.nu.maskDemandLost)),
      (0x220, n (s.lr.routes.cells.filter fun r => r.valid && r.used).length)],
      s.readsOne x.1 x.2) ∧
    (∀ p : Port, readItemAt s 0x008 (portCode p) = .value (n (bit (s.port p).on))) ∧
    (∀ i, 2 < i → readItemAt s 0x008 i = .badIndex) ∧
    (s.readsEach 0x010 fun r : Fin 18 => n (s.si.records.read r).state.code) ∧
    (s.readsEach 0x011 fun r : Fin 18 => (s.si.records.read r).last) ∧
    (s.readsEach 0x012 fun r : Fin 18 => n (s.si.records.read r).run) ∧
    (s.readsEach 0x016 fun i : Fin 2 => n (bit (s.active (if i = 0 then .supply else .park)))) ∧
    (s.readsEach 0x017 fun i : Fin 2 =>
      o ((s.input (if i = 0 then .supply else .park)).accepted.map levelCode)) ∧
    (∀ x ∈ [(0x030, fun g => o (s.lu.read g).bellows), (0x031, fun g => n (s.lu.read g).quality.code),
      (0x032, fun g => n (s.lu.read g).cause.code), (0x033, fun g => o (s.lu.read g).load),
      (0x034, fun g => o (s.lu.read g).fraction), (0x035, fun g => n (s.lu.read g).ratio),
      (0x036, fun g => n (bit (s.lu.read g).overload)), (0x037, fun g => n (s.lu.read g).service),
      (0x057, fun g => n (bit (s.tu.deflated.read g))), (0x058, fun g : Fin 3 => n (bit (s.tu.low.read g)))],
      s.readsEach x.1 x.2) ∧
    (∀ x ∈ [(0x040, fun c => n (s.channel c).target), (0x041, fun c => o (s.channel c).lastCommanded),
      (0x042, fun c => o (s.channel c).feedback), (0x043, fun c => n (bit (s.channel c).fault)),
      (0x044, fun c => n (s.channel c).result.code), (0x088, fun c : Fin 6 => n (s.su.demand.read c))],
      s.readsEach x.1 x.2) ∧
    (∀ x ∈ [(0x050, fun p => n (s.wheel p).state.code), (0x051, fun p => n (bit (s.wheel p).leak)),
      (0x052, fun p => n (bit (s.wheel p).lowBattery)), (0x053, fun p => o (s.wheel p).pressure),
      (0x054, fun p => (s.wheel p).temperature), (0x055, fun p => o ((s.wheel p).time.map (·.toNat))),
      (0x056, fun p => n ((s.wheel p).missing.getD 0)),
      (0x200, fun k => n (bit (s.nu.records.read k).message)),
      (0x201, fun k : Fin 24 => n (bit (s.nu.records.read k).lamp))], s.readsEach x.1 x.2) ∧
    (∀ x ∈ [(0x075, candidate fun e => e.sensorId.toNat), (0x076, candidate fun e => e.count),
      (0x077, candidate fun e => bit e.rapidSeen), (0x078, candidate fun e => e.firstSeen.toNat)],
      s.readsEach x.1 x.2) ∧
    (s.readsEach 0x090 fun f : Fin 12 => n (s.content.read f)) ∧
    (s.readsEach 0x091 fun f : Fin 12 => n (s.sc.lastSent.read f)) ∧
    (∀ i : Fin 3, readItemAt s 0x095 (i.val + 2) = .value (n (bit (s.sc.rear.read i)))) ∧
    (∀ i, i < 2 ∨ 4 < i → readItemAt s 0x095 i = .badIndex) ∧
    (∀ k i, (∀ x ∈ [(0x000, 0x008), (0x010, 0x017), (0x020, 0x02A), (0x030, 0x037), (0x040, 0x047),
        (0x050, 0x059), (0x070, 0x078), (0x080, 0x08D), (0x090, 0x095), (0x100, 0x101), (0x110, 0x121),
        (0x130, 0x134), (0x140, 0x143), (0x150, 0x153), (0x200, 0x201), (0x210, 0x211), (0x220, 0x220)],
        k < x.1 ∨ x.2 < k) → readItemAt s k i = .undefined))

/-- The seven READ_ENTRY commands (R181, R14, R62, R63, R99, R124, R160, R152): the reply carries the
entry's stored fields, BAD_PARAM for an index out of range; nothing else changes. READ_NOTICE (R151) and
READ_SNAPSHOT (R158): the reply carries the record's fields; ABSENT with the number held and the trigger
count for a snapshot that is not held; BAD_PARAM for an index out of range. The bytes of a slot that is not
valid, the presence byte of a stamp and the order of a snapshot's fields are the model's reading (log 12). -/
def Obligations.ReadRecordReplies : Prop :=
  (∀ (s : State) (src : Source) (tag : Byte), s.takesReads →
    (∀ i : Fin 64, s.answers (.readEntryRoute src tag (byteOf i.val)) src 0x04 tag .done
      (routeBytes (s.lr.routes.read i))) ∧
    (∀ g : Fin 3, s.answers (.readEntryGroup src tag (entryByte g)) src 0x04 tag .done
      (groupBytes (s.tables.groups.records.read g))) ∧
    (∀ g : Fin 3, s.answers (.readEntryCurve src tag (entryByte g)) src 0x04 tag .done
      (pointBytes (s.tables.groups.curves.read g))) ∧
    (∀ p : Fin 24, s.answers (.readEntryWheel src tag (entryByte p)) src 0x04 tag .done
      (wheelBytes (s.wheelRec p))) ∧
    s.answers (.readEntryCritical src tag 1) src 0x04 tag .done (pointBytes s.tables.stability.critical) ∧
    (∀ f : Fin 12, s.answers (.readEntryStatusField src tag (entryByte f)) src 0x04 tag .done
      ([byteOf (bit (s.sc.overridden.read f))] ++ natHalf (s.tables.status.fields.read f).value
        ++ [byteOf (bit (s.tables.status.fields.read f).change)] ++ natHalf (s.sc.live.read f))) ∧
    (∀ k : Fin 24, s.answers (.readEntryNotice src tag (entryByte k)) src 0x04 tag .done
      [byteOf (bit (s.tables.notice.read k).message), byteOf (bit (s.tables.notice.read k).lamp)]) ∧
    (∀ (c : Instr) (table i : Byte), entryRead c = some (src, tag, table, i) →
      (table.toNat = 1 → 64 ≤ i.toNat) →
      (table.toNat ≠ 1 → i = 0 ∨
        [0, 0, 3, 3, 24, 1, 12, 24].getD table.toNat 0 < i.toNat) →
        s.answers c src 0x04 tag .badParam [])) ∧
  (∀ (s : State) (src : Source) (tag : Byte), s.takesReads →
    (∀ k : NoticeKind,
      let r := s.nu.notice k
      let stamp (x : Option Stamp) : List Byte := match x with
        | none => [0, 0, 0, 0, 0, 0, 0]
        | some y => 1 :: halfBytes y.detail ++ wordBytes y.time
      s.answers (.readNotice src tag (entryByte k.index)) src 0x30 tag .done
        ([byteOf (bit k.isCondition), byteOf (bit r.flag)] ++ natHalf r.count ++ stamp r.first
          ++ stamp r.latest ++ [byteOf (bit r.present), byteOf (bit r.message), byteOf (bit r.lamp)])) ∧
    (∀ b : Byte, b.toNat = 0 ∨ 24 < b.toNat → s.answers (.readNotice src tag b) src 0x30 tag .badParam []) ∧
    (∀ (i : Fin 4) (r : Snapshot), s.nu.snapshots[i.val]? = some r →
      s.answers (.readSnapshot src tag (entryByte i)) src 0x32 tag .done
        (snapshotBytes r ++ [byteOf s.nu.snapshots.length, byteOf s.nu.triggers])) ∧
    (∀ i : Fin 4, s.nu.snapshots.length ≤ i.val →
      s.answers (.readSnapshot src tag (entryByte i)) src 0x32 tag .absent
        [byteOf s.nu.snapshots.length, byteOf s.nu.triggers]) ∧
    (∀ b : Byte, b.toNat = 0 ∨ 4 < b.toNat → s.answers (.readSnapshot src tag b) src 0x32 tag .badParam []))

/-! ### Management: writing -/

/-- The writes of stored items (R179, R64, R101, R123, R166, R167, R42) by WRITE_ITEM and by the rows that
name an item, in maintenance: a value that the owning rule takes is what the item then reads, and every
other stored item reads as before, and the reply is DONE; any other value, or an index other than 0, is
BAD_PARAM and changes nothing. SWAP_ITEM of a stored item in maintenance (R180): with the expected value it
writes as WRITE_ITEM does; with another it answers MISMATCH with the item's value, and with a new value or
an index that WRITE_ITEM does not take BAD_PARAM, and changes nothing. Of both, the first lines of R179:
ABSENT for a number that is no item, READ_ONLY below 0x100, NOT_IN_MAINTENANCE for a stored item in RUN.
That a write is executed also while the port of its source is OFF is the model's choice (log 15). -/
def Obligations.StoredItemWrites : Prop :=
  (∀ (s : State) (c : Instr) (src : Source) (tag : Byte) (item : Half) (i : Byte) (v : Word) (ok : Bool),
    s.takesWrites → itemWrite c = some (src, tag, item, i, v) →
    s.tables.itemTakes item.toNat v.toNat = some ok →
      (ok = true → i = 0 →
        ∃ t, exec c s = .next t ∧ readItemAt t item.toNat 0 = .value (some (v.toNat : Int))
          ∧ (∀ n, 0x100 ≤ n → n < 0x200 → n ≠ item.toNat → readItemAt t n 0 = readItemAt s n 0)
          ∧ s.SameBackground t ∧ s.placesReply t src 0x02 tag .done [] 11) ∧
      (ok = false ∨ i ≠ 0 → s.answers c src 0x02 tag .badParam [])) ∧
  (∀ (s : State) (src : Source) (tag : Byte) (item : Half) (i : Byte) (expected new : Word) (ok : Bool),
    s.takesWrites → s.tables.itemTakes item.toNat new.toNat = some ok →
      (ok = false ∨ i ≠ 0 →
        s.answers (.swapItem src tag item i expected new) src 0x03 tag .badParam []) ∧
      ∀ old : Int, ok = true → readItemAt s item.toNat 0 = .value (some old) →
        (BitVec.ofInt 32 old = expected →
          ∃ t, exec (.swapItem src tag item 0 expected new) s = .next t
            ∧ readItemAt t item.toNat 0 = .value (some (new.toNat : Int)) ∧ s.SameBackground t
            ∧ s.placesReply t src 0x03 tag .done [] 11) ∧
        (BitVec.ofInt 32 old ≠ expected →
          s.answers (.swapItem src tag item 0 expected new) src 0x03 tag .mismatch
            (wordBytes (BitVec.ofInt 32 old)))) ∧
  (∀ (s : State) (src : Source) (tag : Byte) (item : Half) (i : Byte) (v expected new : Word),
    s.takesRequests →
      let both (st : ReplyStatus) : Prop :=
        s.answers (.writeItem src tag item i v) src 0x02 tag st [] ∧
        s.answers (.swapItem src tag item i expected new) src 0x03 tag st []
      let defined : Prop := readItemAt s item.toNat i.toNat ≠ .undefined
      (¬ defined → both .absent) ∧ (defined → item.toNat < 0x100 → both .readOnly) ∧
      (defined → 0x100 ≤ item.toNat → item.toNat < 0x200 → s.me.op = .run → both .notInMaintenance))

/-- The items writable at any time (R14, R152, R155, R179, R180), in RUN or maintenance, by WRITE_ITEM with
the item's number, by the rows that name an item, and by SWAP_ITEM whose expected value is the one the item
reads: the used flags are cleared; the snapshot mode and mask are set; a notice enable is set in force, and
stored in maintenance while NOTICE is valid. A value that is not listed, or an index out of range, is
BAD_PARAM and changes nothing. A SWAP_ITEM whose expected value is another answers MISMATCH with the value
read, and changes nothing. That an enable is set also while the port of the request's source is OFF is the
model's choice (log 15). -/
def Obligations.RuntimeItemWrites : Prop :=
  ∀ (s : State) (src : Source) (tag : Byte), s.takesRequests →
    let writes (c : Instr) (code : Byte) (item : Half) (i : Byte) (v : Word) : Prop :=
      (code = 0x02 ∧ itemWrite c = some (src, tag, item, i, v)) ∨
      (code = 0x03 ∧ ∃ old : Int, readItemAt s item.toNat i.toNat = .value (some old) ∧
        c = .swapItem src tag item i (BitVec.ofInt 32 old) v)
    let names (c : Instr) (code : Byte) (item : Half) (i : Byte) (v : Word) : Prop :=
      (code = 0x02 ∧ itemWrite c = some (src, tag, item, i, v)) ∨
      (code = 0x03 ∧ ∃ expected, c = .swapItem src tag item i expected v)
    (∀ c code v, writes c code 0x220 0 v → s.roomForReply src code tag .done [] →
      exec c s
        = .next ((s.setLr { s.lr with
            routes := Bank.ofFn fun i => { s.lr.routes.read i with used := false } }).replied
              src code tag .done [])) ∧
    (∀ c code (m : SnapMode), writes c code 0x210 0 (BitVec.ofNat 32 m.code) →
      s.roomForReply src code tag .done [] →
      exec c s = .next ((s.setNu { s.nu with mode := m }).replied src code tag .done [])) ∧
    (∀ c code (x y z : Bool), writes c code 0x211 0 (BitVec.ofNat 32 (bit x + 2 * bit y + 4 * bit z)) →
      s.roomForReply src code tag .done [] →
      exec c s
        = .next ((s.setNu { s.nu with maskIntervention := x, maskEmergency := y, maskDemandLost := z }).replied
            src code tag .done [])) ∧
    (∀ c code (k : NoticeKind) (b : Bool) (x : EnableItem),
      writes c code (if x = .message then 0x200 else 0x201) (entryByte k.index) (BitVec.ofNat 32 (bit b)) →
      ∃ t, exec c s = .next t
        ∧ (t.nu.notice k).message = (if x = .message then b else (s.nu.notice k).message)
        ∧ (t.nu.notice k).lamp = (if x = .lamp then b else (s.nu.notice k).lamp)
        ∧ (∀ j, j ≠ k → (t.nu.notice j).message = (s.nu.notice j).message
            ∧ (t.nu.notice j).lamp = (s.nu.notice j).lamp)
        ∧ t.nu.lampOut = t.nu.lampDue
        ∧ (s.roomFor (sourcePort src) 4 → ∀ m ∈ s.replySegments code tag .done [],
            m ∈ (t.port (sourcePort src)).queue)
        ∧ (s.me.op = .maintenance ∧ s.valid .notice = true →
            (t.tables.notice.read k.index).message
                = (if x = .message then b else (s.tables.notice.read k.index).message)
              ∧ (t.tables.notice.read k.index).lamp
                = (if x = .lamp then b else (s.tables.notice.read k.index).lamp))
        ∧ (s.me.op = .run ∨ s.valid .notice = false → t.tables = s.tables)
        ∧ t.tables.groups = s.tables.groups ∧ t.tables.wheels = s.tables.wheels ∧ s.SameBackground t) ∧
    (∀ c code (i : Byte) (v : Word),
      (i ≠ 0 → names c code 0x220 i v → s.answers c src code tag .badParam []) ∧
      (i ≠ 0 ∨ 1 < v.toNat → names c code 0x210 i v → s.answers c src code tag .badParam []) ∧
      (i ≠ 0 ∨ 7 < v.toNat → names c code 0x211 i v → s.answers c src code tag .badParam []) ∧
      (i = 0 ∨ 24 < i.toNat ∨ 1 < v.toNat → names c code 0x200 i v ∨ names c code 0x201 i v →
        s.answers c src code tag .badParam [])) ∧
    (∀ (item : Half) (i : Byte) (expected v : Word) (old : Int),
      item = 0x220 ∨ (item = 0x210 ∧ v.toNat ≤ 1) ∨ (item = 0x211 ∧ v.toNat ≤ 7)
        ∨ ((item = 0x200 ∨ item = 0x201) ∧ v.toNat ≤ 1) →
      readItemAt s item.toNat i.toNat = .value (some old) → BitVec.ofInt 32 old ≠ expected →
        s.answers (.swapItem src tag item i expected v) src 0x03 tag .mismatch
          (wordBytes (BitVec.ofInt 32 old)))

/-- WRITE_ENTRY and ERASE_ENTRY on GROUP, CURVE and CRITICAL in maintenance (R62, R63, R124): a record or
list that the rule takes is stored whole at its place, nothing else of the tables changes, and the reply is
DONE, as it is to an erase; an erase of a group clears its configured field alone, one of a list empties
it; a field out of its range, a list that the rule does not take and an index out of range are BAD_PARAM
and change nothing. That a request is executed also while the port of its source is OFF is the model's
choice (log 15). -/
def Obligations.GroupTableWrites : Prop :=
  ∀ (s : State) (src : Source) (tag : Byte) (g : Fin 3), s.takesWrites →
    let keep (x : GroupsTable) (y : StabTable) (code : Byte) (t : State) : Prop :=
      t.tables = { s.tables with groups := x, stability := y } ∧ s.SameBackground t
        ∧ s.placesReply t src code tag .done [] 11
    let groups := s.tables.groups
    let stab := s.tables.stability
    (∀ r : GroupRec, groupRecOk r = true →
      ∃ t, exec (.writeEntryGroup src tag (entryByte g) r.packed) s = .next t
        ∧ keep { groups with records := groups.records.write g r } stab 0x05 t) ∧
    (∃ t, exec (.eraseEntryGroup src tag (entryByte g)) s = .next t
        ∧ keep { groups with
            records := groups.records.write g { groups.records.read g with configured := false } } stab 0x06 t) ∧
    (∀ ps, curveOk ps = true →
      ∃ t, exec (.writeEntryCurve src tag (entryByte g) (packedPoints ps)) s = .next t
        ∧ keep { groups with curves := groups.curves.write g ps } stab 0x05 t) ∧
    (∃ t, exec (.eraseEntryCurve src tag (entryByte g)) s = .next t
        ∧ keep { groups with curves := groups.curves.write g [] } stab 0x06 t) ∧
    (∀ ps, criticalOk ps = true →
      ∃ t, exec (.writeEntryCritical src tag 1 (packedPoints ps)) s = .next t
        ∧ keep groups { stab with critical := ps } 0x05 t) ∧
    (∃ t, exec (.eraseEntryCritical src tag 1) s = .next t
        ∧ keep groups { stab with critical := [] } 0x06 t) ∧
    (∀ f : GroupFields,
      1 < f.configured.toNat ∨ f.rated.toNat < 100 ∨ 6553 < f.rated.toNat ∨ 1023 < f.emptyKnee.toNat
        ∨ f.ladenKnee.toNat ≤ f.emptyKnee.toNat ∨ 1024 < f.ladenKnee.toNat ∨ 1024 < f.emptyRatio.toNat
        ∨ 200 < f.threshold.toNat ∨ 1 < f.capPresent.toNat
        ∨ (f.capPresent = 1 ∧ (f.cap.toNat < 100 ∨ 1000 < f.cap.toNat)) →
      s.answers (.writeEntryGroup src tag (entryByte g) f) src 0x05 tag .badParam []) ∧
    (∀ ps : List (Half × Half), curveOk (natPoints ps) = false →
      s.answers (.writeEntryCurve src tag (entryByte g) ps) src 0x05 tag .badParam []) ∧
    (∀ ps : List (Half × Half), criticalOk (natPoints ps) = false →
      s.answers (.writeEntryCritical src tag 1 ps) src 0x05 tag .badParam []) ∧
    (∀ (b : Byte) (f : GroupFields) (ps : List (Half × Half)),
      (b = 0 ∨ 3 < b.toNat →
        s.answers (.writeEntryGroup src tag b f) src 0x05 tag .badParam [] ∧
        s.answers (.eraseEntryGroup src tag b) src 0x06 tag .badParam [] ∧
        s.answers (.writeEntryCurve src tag b ps) src 0x05 tag .badParam [] ∧
        s.answers (.eraseEntryCurve src tag b) src 0x06 tag .badParam []) ∧
      (b ≠ 1 →
        s.answers (.writeEntryCritical src tag b ps) src 0x05 tag .badParam [] ∧
        s.answers (.eraseEntryCritical src tag b) src 0x06 tag .badParam []))

/-- WRITE_ENTRY and ERASE_ENTRY on STATUS FIELD and NOTICE in maintenance (R160, R152): the field's source,
override value and change flag are set, or return to LIVE and the defaults; the stored enables of a kind
are set, or return to theirs, and are in force while NOTICE is valid; a field that is not listed or does
not fit its width and an index out of range are BAD_PARAM and change nothing. What is taken is answered
DONE. That a request is executed also while the port of its source is OFF is the model's choice (log 15). -/
def Obligations.StatusAndNoticeEntryWrites : Prop :=
  ∀ (s : State) (src : Source) (tag : Byte), s.takesWrites →
    (∀ (f : Fin 12) (ovr change : Bool) (v : Nat), overrideOk f v = true → s.calm →
      ∃ t, exec (.writeEntryStatusField src tag (entryByte f)
          { source := byteOf (bit ovr), value := BitVec.ofNat 16 v, change := byteOf (bit change) }) s = .next t
        ∧ t.tables = { s.tables with status := { s.tables.status with
            fields := s.tables.status.fields.write f { value := v, change := change } } }
        ∧ t.sc.overridden = s.sc.overridden.write f ovr ∧ s.SameBackground t
        ∧ s.placesReply t src 0x05 tag .done [] 1) ∧
    (∀ f : Fin 12, s.calm →
      ∃ t, exec (.eraseEntryStatusField src tag (entryByte f)) s = .next t
        ∧ t.tables = { s.tables with status := { s.tables.status with
            fields := s.tables.status.fields.write f { value := 0, change := true } } }
        ∧ t.sc.overridden = s.sc.overridden.write f false ∧ s.SameBackground t
        ∧ s.placesReply t src 0x06 tag .done [] 1) ∧
    (∀ (k : Fin 24) (m l : Bool),
      ∃ t, exec (.writeEntryNotice src tag (entryByte k)
          { message := byteOf (bit m), lamp := byteOf (bit l) }) s = .next t
        ∧ t.tables = { s.tables with notice := s.tables.notice.write k { message := m, lamp := l } }
        ∧ (s.valid .notice = true →
            (t.nu.records.read k).message = m ∧ (t.nu.records.read k).lamp = l
              ∧ t.nu.lampOut = t.nu.lampDue)
        ∧ (s.valid .notice = false → (t.nu.records.read k).message = (s.nu.records.read k).message
            ∧ (t.nu.records.read k).lamp = (s.nu.records.read k).lamp)
        ∧ s.SameBackground t ∧ s.placesReply t src 0x05 tag .done [] 1) ∧
    (∀ k : Fin 24,
      ∃ t, exec (.eraseEntryNotice src tag (entryByte k)) s = .next t
        ∧ t.tables = { s.tables with
            notice := s.tables.notice.write k { message := true, lamp := (NoticeKind.ofIndex k).defaultLamp } }
        ∧ (s.valid .notice = true →
            (t.nu.records.read k).message = true
              ∧ (t.nu.records.read k).lamp = (NoticeKind.ofIndex k).defaultLamp
              ∧ t.nu.lampOut = t.nu.lampDue)
        ∧ s.SameBackground t ∧ s.placesReply t src 0x06 tag .done [] 1) ∧
    (∀ (b : Byte) (f : StatusFieldFields) (n : NoticeFields),
      (b = 0 ∨ 12 < b.toNat ∨ 1 < f.source.toNat ∨ 1 < f.change.toNat
          ∨ 2 ^ [4, 2, 3, 3, 1, 3, 8, 10, 8, 4, 8, 3].getD (b.toNat - 1) 0 ≤ f.value.toNat →
        s.answers (.writeEntryStatusField src tag b f) src 0x05 tag .badParam []) ∧
      (b = 0 ∨ 12 < b.toNat → s.answers (.eraseEntryStatusField src tag b) src 0x06 tag .badParam []) ∧
      (b = 0 ∨ 24 < b.toNat ∨ 1 < n.message.toNat ∨ 1 < n.lamp.toNat →
        s.answers (.writeEntryNotice src tag b n) src 0x05 tag .badParam []) ∧
      (b = 0 ∨ 24 < b.toNat → s.answers (.eraseEntryNotice src tag b) src 0x06 tag .badParam []))

/-- WRITE_ENTRY and ERASE_ENTRY on WHEEL in maintenance (R99, R100, R120, R121): a record that the rule
takes, its sensor ID in no other record, is stored; a changed record is restarted; the written ID leaves
the candidate list; an ID held by another record is CONFLICT; a field out of its range and an index out of
range are BAD_PARAM; an erase clears configured and the sensor ID. What is taken is answered DONE. That a
request is executed also while the port of its source is OFF is the model's choice (log 15). -/
def Obligations.WheelTableWrites : Prop :=
  ∀ (s : State) (src : Source) (tag : Byte) (p : Fin 24), s.takesWrites →
    let put (r : WheelRec) : Tables := { s.tables with
      wheels := { s.tables.wheels with records := s.tables.wheels.records.write p r } }
    let restarted (t : State) (r : WheelRec) : Prop :=
      t.wheel p = { state := if r.sensorId.isSome then .unheard else .unlearned, leak := false,
                    pressure := none, temperature := none, time := none, lowBattery := false
                    missing := if s.valid .wheels = true ∧ r.configured = true ∧ r.sensorId ≠ none then
                      some s.tables.wheels.missing else none }
        ∧ t.tu.justLoaded.read p = s.tu.tickDue ∧ ∀ k, k ≠ p → t.wheel k = s.wheel k
    (∀ r : WheelRec, wheelRecOk r = true →
      (∀ q, q ≠ p → r.sensorId = none ∨ (s.wheelRec q).sensorId ≠ r.sensorId) → s.calm →
        ∃ t, exec (.writeEntryWheel src tag (entryByte p) r.packed) s = .next t ∧ t.tables = put r
          ∧ (r ≠ s.wheelRec p → restarted t r) ∧ (r = s.wheelRec p → t.tu.wheels = s.tu.wheels)
          ∧ (∀ e ∈ t.tu.learn.candidates, some e.sensorId ≠ r.sensorId)
          ∧ (r.configured = false → s.tu.learn.position = some p → t.tu.learn.state = .idle)
          ∧ s.SameBackground t ∧ s.placesReply t src 0x05 tag .done [] 6) ∧
    (∀ (r : WheelRec) (q : Fin 24), wheelRecOk r = true → q ≠ p → r.sensorId ≠ none →
      (s.wheelRec q).sensorId = r.sensorId →
        s.answers (.writeEntryWheel src tag (entryByte p) r.packed) src 0x05 tag .conflict []) ∧
    (s.calm →
      ∃ t, exec (.eraseEntryWheel src tag (entryByte p)) s = .next t
        ∧ t.tables = put { s.wheelRec p with configured := false, sensorId := none }
        ∧ restarted t { s.wheelRec p with configured := false, sensorId := none }
        ∧ (s.tu.learn.position = some p → t.tu.learn.state = .idle) ∧ s.SameBackground t
        ∧ s.placesReply t src 0x06 tag .done [] 6) ∧
    (∀ (b : Byte) (f : WheelFields),
      (b = 0 ∨ 24 < b.toNat ∨ 1 < f.configured.toNat ∨ f.group = 0 ∨ 3 < f.group.toNat ∨ f.axle = 0
          ∨ 3 < f.axle.toNat ∨ 1 < f.side.toNat ∨ 2 < f.placement.toNat ∨ 1 < f.idPresent.toNat
          ∨ f.nominal.toNat < 200 ∨ 1200 < f.nominal.toNat →
        s.answers (.writeEntryWheel src tag b f) src 0x05 tag .badParam []) ∧
      (b = 0 ∨ 24 < b.toNat → s.answers (.eraseEntryWheel src tag b) src 0x06 tag .badParam []))

/-- In RUN the requests that need maintenance are answered NOT_IN_MAINTENANCE (R179, R181, R185, R187,
R188, R116), and while a long operation is in flight every request but the four reading ones is answered
BUSY with its kind (R175); neither changes anything but the queue of the reply. -/
def Obligations.RefusedRequests : Prop :=
  ∀ (s : State) (c : Instr) (src : Source) (code tag : Byte), heldRequest c = some (src, code, tag) →
    s.ready →
    (s.me.op = .run → s.me.slot = none → needsMaintenance c = true →
      s.answers c src code tag .notInMaintenance []) ∧
    (∀ o : LongOp, s.me.op ≠ .start → s.me.slot = some o →
      s.answers c src code tag .busy [byteOf o.kind.code])

/-! ### Management: services, groups and the store -/

/-- ENTER_MAINTENANCE (R183): from RUN, stationary with PARK active and no emergency, the part is in
maintenance; in every other case NOT_STATIONARY and nothing changes. LEAVE_MAINTENANCE (R185): with no
failing section the part is in RUN with every section valid, the table check PASSED, the learn idle and
every field source LIVE; with failing sections BAD_TABLES with their mask and nothing changes. Both that
are taken are answered DONE. That a request is executed also while the port of its source is OFF is the
model's choice (log 15). -/
def Obligations.MaintenanceEntryAndExit : Prop :=
  (∀ (s : State) (src : Source) (tag : Byte), s.takesRequests →
    (s.me.op = .run → s.si.motion = .stationary → s.active .park = true → s.du.emergency = false → s.slow →
      ∃ t, exec (.enterMaintenance src tag) s = .next t ∧ t.me.op = .maintenance
        ∧ t.du.mode = .maintenance ∧ t.ts.validity = s.ts.validity ∧ t.tu = s.tu ∧ t.tables = s.tables
        ∧ s.SameBackground t ∧ s.placesReply t src 0x10 tag .done [] 11) ∧
    (s.me.op ≠ .run ∨ s.si.motion ≠ .stationary ∨ s.active .park = false ∨ s.du.emergency = true →
      s.answers (.enterMaintenance src tag) src 0x10 tag .notStationary [])) ∧
  (∀ (s : State) (src : Source) (tag : Byte), s.takesWrites →
    (s.crossMask = 0 →
      ∃ t, exec (.leaveMaintenance src tag) s = .next t ∧ t.me.op = .run
        ∧ (∀ x : Fin 7, t.ts.validity.read x = true) ∧ t.ts.check = .passed
        ∧ t.tu.learn.state = .idle ∧ (∀ f, t.sc.overridden.read f = false) ∧ t.tables = s.tables
        ∧ s.SameBackground t ∧ s.placesReply t src 0x11 tag .done [] 11) ∧
    (s.crossMask ≠ 0 →
      s.answers (.leaveMaintenance src tag) src 0x11 tag .badTables [byteOf s.crossMask]))

/-- The cross-checks (R184): the bit of a section in the mask is set exactly when a check under it fails
over the working tables. The forced exit (R186), by PARK going inactive and by a speed that makes the
trailer MOVE: RUN with each section of the mask invalid and the validity of every other as it stood, the
table check judged, the learn ended, every source LIVE, the tables kept, a store in flight going on, and
MAINT_EXIT_FORCED raised with the mask. Outside maintenance neither event does anything in ME. -/
def Obligations.CrossChecksAndForcedExits : Prop :=
  (∀ s : State,
    let t := s.tables
    let configured (g : Fin 3) : Prop := (t.groups.records.read g).configured = true
    let size (l : List (Nat × Nat)) : Prop := l.length < 2 ∨ 8 < l.length
    let fails (x : Sect) : Prop := match x with
      | .route => ¬ ∃ i, (s.lr.routes.read i).valid = true ∧ (s.lr.routes.read i).entry.consumer = .du
          ∧ (s.lr.routes.read i).entry.key = { port := .fl, kind := 0x01, relation := .all }
      | .groups => (∀ g, ¬ configured g) ∨ ∃ g, configured g ∧
          (let r := t.groups.records.read g
           size (t.groups.curves.read g) ∨ r.rated < 100 ∨ r.ladenKnee ≤ r.emptyKnee ∨ 1024 < r.emptyRatio
            ∨ 200 < r.threshold ∨ ∃ c, r.cap = some c ∧ (c < 100 ∨ 1000 < c))
      | .stability => t.stability.enable = true ∧ (size t.stability.critical
          ∨ t.stability.mTest ≤ t.stability.mInt ∨ t.stability.mWatch ≤ t.stability.mTest
          ∨ ∃ g ∈ t.stability.order, ¬ configured g)
      | .wheels => ∃ p, (s.wheelRec p).configured = true ∧ ¬ configured (s.wheelRec p).group
      | .status | .notice | .filters => False
    s.crossMask < 128 ∧ (∀ x, s.crossMask.testBit x.index.val = true ↔ fails x)
      ∧ (∀ x, s.crossPass.read x.index = true ↔ ¬ fails x) ∧ (s.crossMask = 0 ↔ ∀ x, ¬ fails x)) ∧
  (∀ (s t : State),
    let forced : Prop := t.me.op = .run ∧ t.du.mode = t.modeNow
      ∧ (∀ x : Fin 7, t.ts.validity.read x = (s.ts.validity.read x && s.crossPass.read x))
      ∧ t.ts.check = (if ∀ x : Fin 7, t.ts.validity.read x = true then TableCheck.passed else .failed)
      ∧ t.tu.learn.state = .idle ∧ (∀ f, t.sc.overridden.read f = false) ∧ t.tables = s.tables
      ∧ t.ts.writing = s.ts.writing ∧ s.raised t .maintExitForced s.crossMask
      ∧ (∀ o, s.me.slot = some o → s.bt.check.requestPending = false → t.me.slot = some o) ∧ s.SameGround t
    s.ready → s.me.op = .maintenance →
      (∀ l, s.canAccept .park l = true → s.active .park = true → exec (.parkAccepted l) s = .next t →
        forced ∧ s.SameBackground t) ∧
      (∀ h d c v, s.routesTo .wb { kind := kSpeed, hdr := h, data := d } .si →
        h.selector.toNat = c.val + 1 → readSample kSpeed d = some (true, v) → 200 ≤ v → v ≤ 20000 →
        (s.record (.speed c)).state = .good → s.si.testChannel ≠ some c → s.si.motion ≠ .moving →
        exec (.speedSample h d) s = .next t → forced ∧ t.si.motion = .moving)) ∧
  (∀ w : Work, w.st.me.op ≠ .maintenance → motionHanded w = w ∧ parkHanded w = w)

/-- STORE_TABLES and RESTART in maintenance (R187, R188, R193): with no failing section the request takes
the slot and the store begins with the first section under a limit of 2000 ms, otherwise BAD_TABLES;
RESTART offers its reply, enters restart pending with 100 ms to run and makes both buffers IDLE. The store
(R193, R194): a section written whole holds the working content with the CRC-16 over it, and the next part
follows; the header written makes the store succeed with the next generation and its CRC, every section
valid, the slot free and the reply DONE; a write failure, and the time limit, leave the part in progress
with a wrong CRC, the generation and the validity unchanged, raise STORE_FAILED and reply FAILED. That a
section holds the content of the moment its write completes is the model's choice (log 21), as are the
order and the widths of a section's bytes under the CRC and what the content of a part left in progress is
(log 6), and that STORE_TABLES is executed also while the port of its source is OFF (log 15). -/
def Obligations.StoreCommands : Prop :=
  (∀ (s : State) (src : Source) (tag : Byte), s.takesWrites →
    (s.crossMask = 0 →
      exec (.storeTables src tag) s = .next ((s.setMe { s.me with
        slot := some { kind := .storeTables, src := src, code := 0x12, tag := tag } }).setTs
          { s.ts with writing := some 0, limit := .running 2000 })) ∧
    (s.crossMask ≠ 0 → s.answers (.storeTables src tag) src 0x12 tag .badTables [byteOf s.crossMask]) ∧
    (s.roomForReply src 0x13 tag .done [] →
      exec (.restart src tag) s = .next
        ((s.appended (sourcePort src)
            { s.ownMsg 4 kManageReply 0 (segmentByte 0 true :: replyGroup 0x13 tag .done []) with
              restartReply := true }).setMe
          { s.me with restartPending := true, restartTimer := .running 100,
                      bufferFl := none, bufferWb := none }))) ∧
  (∀ s : State, s.ready →
    let replied (t : State) (st : ReplyStatus) (results : List Byte) (room : Nat) : Prop :=
      ∀ o, s.me.slot = some o →
        s.roomFor (sourcePort o.src) ((s.replySegments o.code o.tag st results).length + room) →
        ∀ m ∈ s.replySegments o.code o.tag st results, m ∈ (t.port (sourcePort o.src)).queue
    let next := s.ts.generation + 1
    (∀ i : Fin 7, s.ts.writing = some i.castSucc →
      ∃ im : Image, exec .storeWriteComplete s
          = .next (s.setTs { s.ts with writing := some i.succ, image := im })
        ∧ im.generation = s.ts.image.generation ∧ im.headerCrc = s.ts.image.headerCrc
        ∧ im.crcs.read i = crc16 (im.sectionBytes (Sect.ofIndex i))
        ∧ (∀ j, j ≠ i → im.crcs.read j = s.ts.image.crcs.read j)
        ∧ im.good (Sect.ofIndex i) = true
        ∧ (∀ x : Sect, x.index ≠ i → im.good x = s.ts.image.good x)
        ∧ im.routes = (if i = 0 then storedRoutes s.lr.routes else s.ts.image.routes)
        ∧ im.tables.groups = (if i = 1 then s.tables.groups else s.ts.image.tables.groups)
        ∧ im.tables.stability = (if i = 2 then s.tables.stability else s.ts.image.tables.stability)
        ∧ im.tables.wheels = (if i = 3 then s.tables.wheels else s.ts.image.tables.wheels)
        ∧ im.tables.status = (if i = 4 then s.tables.status else s.ts.image.tables.status)
        ∧ im.tables.notice = (if i = 5 then s.tables.notice else s.ts.image.tables.notice)
        ∧ im.tables.filters = (if i = 6 then s.tables.filters else s.ts.image.tables.filters)) ∧
    (s.ts.writing = some 7 → s.crossMask = 0 ∨ (s.calm ∧ s.valid .filters = true) →
      ∃ t, exec .storeWriteComplete s = .next t
        ∧ t.ts.generation = next
        ∧ t.ts.image = { s.ts.image with generation := next, headerCrc := crc16 (wordBytes next) }
        ∧ t.ts.writing = none ∧ t.ts.limit = .stopped ∧ (∀ x : Fin 7, t.ts.validity.read x = true)
        ∧ t.ts.check = .passed ∧ t.me.slot = none ∧ t.tables = s.tables ∧ t.lr.routes = s.lr.routes
        ∧ ((∀ x : Fin 7, s.ts.validity.read x = true) → replied t .done (wordBytes next) 1)) ∧
    (∀ (i : Fin 8) (c : Instr), s.ts.writing = some i →
      c = .storeWriteFailure ∨ (c = .storeTimeLimitExpiry ∧ s.ts.limit.due = true) →
      ∃ t, exec c s = .next t
        ∧ t.ts.writing = none ∧ t.ts.limit = .stopped ∧ t.ts.generation = s.ts.generation
        ∧ t.ts.validity = s.ts.validity ∧ t.ts.check = s.ts.check
        ∧ t.ts.image = { s.ts.image with headerCrc := t.ts.image.headerCrc, crcs := t.ts.image.crcs }
        ∧ (∀ j : Fin 7, j.castSucc ≠ i → t.ts.image.crcs.read j = s.ts.image.crcs.read j)
        ∧ (i ≠ 7 → t.ts.image.headerCrc = s.ts.image.headerCrc)
        ∧ (∀ x, t.ts.image.good x = (s.ts.image.good x && decide (x.index.castSucc ≠ i)))
        ∧ t.ts.image.headerGood = (s.ts.image.headerGood && decide (i ≠ 7))
        ∧ s.raised t .storeFailed (if c = .storeWriteFailure then 1 else 0)
        ∧ t.me.slot = none ∧ t.me.op = s.me.op ∧ t.tables = s.tables ∧ t.bt = s.bt ∧ t.tu = s.tu
        ∧ t.lr.routes = s.lr.routes ∧ replied t .failed [] 2))

/-- Segments on the port of their source (R172, R173, R174, R175, R199). A segment 0 starts a group anew
and a segment of the expected index goes on with it; what completes the count is judged: a right CRC makes
it the group's request, UNKNOWN_REQUEST for a code that names none, BAD_PARAM for parameters of another
length; a wrong CRC is refused. What leaves the group below its count is held when it carries seven bytes
with its last flag clear. Refused with BAD_GROUP and their cause: a count outside 5..64 (0), an index that
is not the expected one (1), a short segment (2), an early last flag (3), the assembly timer (4), the CRC
(5). Discarded: a segment without a byte, a segment 0 without a group byte, a later one with the buffer
IDLE. That WRITE ENTRY on a table that does not exist is BAD_PARAM outside maintenance too is the model's
reading (log 11). -/
def Obligations.GroupsAreAssembled : Prop :=
  ∀ (s : State) (src : Source), s.me.op ≠ .start → s.ready →
    (∀ (h : Header) (data : List Byte) (i : Fin 64),
      let f : Frame := { kind := kManageRequest, hdr := h, data := data }
      let outcome := exec (.manageRequestSegment src h data) s
      let taken := (s.heard (sourcePort src)).usedAt i
      let holding (a : Option Assembly) : State := ((Work.begin taken).setBuffer src a).st
      let idle := holding none
      let b := data.getD 0 0
      let body := data.drop 1
      let index := (b.extractLsb' 0 4).toNat
      let last := b.getLsbD 4
      s.receives (sourcePort src) = true → s.hit (sourcePort src) f = some i →
      (s.lr.routes.read i).entry.consumer = .me → (s.lr.routes.read i).entry.toFL = false →
      (s.lr.routes.read i).entry.toRL = false → data.length ≤ 8 →
        let refused (held : List Byte) (cause : Byte) : Prop :=
          s.roomForReply src (held.getD 1 0) (held.getD 2 0) .badGroup [cause] →
            outcome = .next (idle.replied src (held.getD 1 0) (held.getD 2 0) .badGroup [cause])
        (data = [] ∨ (index = 0 ∧ body = []) ∨ (index ≠ 0 ∧ s.me.buffer src = none) → outcome = .next taken) ∧
        (data ≠ [] → ∀ a, s.me.buffer src = some a → index ≠ 0 → index ≠ a.next → refused a.bytes 1) ∧
        (index = 0 → body ≠ [] → (body.getD 0 0).toNat < 5 ∨ 64 < (body.getD 0 0).toNat → refused body 0) ∧
        (∀ (held : List Byte) (next n : Nat) (timer : Timer),
          (index = 0 ∧ body ≠ [] ∧ held = body ∧ next = 1 ∧ timer = .running 250) ∨
            (data ≠ [] ∧ ∃ a, s.me.buffer src = some a ∧ index = a.next ∧ index ≠ 0
              ∧ held = a.bytes ++ body ∧ next = a.next + 1 ∧ timer = a.timer) →
          (held.getD 0 0).toNat = n → 5 ≤ n → n ≤ 64 →
          (held.length < n →
            (last = true → refused held 3) ∧ (last = false → body.length < 7 → refused held 2) ∧
            (last = false → body.length = 7 →
              outcome = .next (holding (some { bytes := held, next := next, timer := timer })))) ∧
          (n ≤ held.length →
            let group := held.take n
            let code := held.getD 1 0
            let tag := held.getD 2 0
            let params := (group.take (n - 2)).drop 3
            let right : Prop := halfBytes (crc16 (group.take (n - 2))) = group.drop (n - 2)
            let answered (st : ReplyStatus) : Prop :=
              s.roomForReply src code tag st [] → outcome = .next (idle.replied src code tag st [])
            (¬ right → refused held 5) ∧
            (right → ∀ r, parseRequest code params = .ok r → outcome = request src tag r idle) ∧
            (right → code.toNat ∉ [0x01, 0x02, 0x03, 0x04, 0x05, 0x06, 0x10, 0x11, 0x12, 0x13, 0x20, 0x21,
              0x22, 0x30, 0x31, 0x32, 0x33] → answered .unknownRequest) ∧
            (right → s.me.slot = none →
              (∀ x ∈ [(0x01, 3), (0x02, 7), (0x03, 11), (0x04, 2), (0x06, 2), (0x10, 0), (0x11, 0), (0x12, 0),
                  (0x13, 0), (0x20, 0), (0x21, 1), (0x22, 0), (0x30, 1), (0x31, 1), (0x32, 1), (0x33, 0)],
                code.toNat = x.1 → params.length ≠ x.2 → answered .badParam) ∧
              (code = 0x05 → params = [] → answered .badParam) ∧
              (∀ t rest, code = 0x05 → params = t :: rest →
                (t = 0 ∨ 7 < t.toNat → answered .badParam) ∧
                (∀ x ∈ [(1, 5), (2, 14), (4, 13), (6, 5), (7, 3)],
                  t.toNat = x.1 → rest.length ≠ x.2 → answered .badParam) ∧
                (t = 3 ∨ t = 5 → rest.length < 2 ∨ rest.length ≠ 2 + 4 * (rest.getD 1 0).toNat →
                  answered .badParam)))))) ∧
    (∀ a : Assembly, s.me.buffer src = some a → a.timer.due = true →
      s.roomForReply src (a.bytes.getD 1 0) (a.bytes.getD 2 0) .badGroup [4] →
        exec (.assemblyTimerExpiry src) s
          = .next (((Work.begin s).setBuffer src none).st.replied src (a.bytes.getD 1 0) (a.bytes.getD 2 0)
              .badGroup [4]))
end

