-- ==== Sys2Proof/Laws/Arith.lean ====
section
/-! SUPPORT. The CRC-16 as a fold over the bytes. -/

namespace Sys2Proof

/-- The register after the bytes is the fold of R174's step over them. -/
theorem crc16From_eq_foldl (r : Half) (bytes : List Byte) : crc16From r bytes = bytes.foldl crc16Byte r := by
  induction bytes generalizing r with
  | nil => rfl
  | cons b rest ih =>
    unfold crc16From
    split
    · next h => rw [ih, List.foldl_cons, BitVec.eq_of_toNat_eq (x := crc16Byte r b) (y := 0) (by simpa using h)]
    · next n h =>
      have h2 : crc16Byte r b = BitVec.ofNat 16 (n + 1) := by
        have h3 := congrArg (BitVec.ofNat 16) h
        simpa using h3
      rw [ih, List.foldl_cons, h2]

/-- R174: the register starts at 0xFFFF. -/
theorem crc16_eq_foldl (bytes : List Byte) : crc16 bytes = bytes.foldl crc16Byte 0xFFFF#16 :=
  crc16From_eq_foldl _ _

end Sys2Proof
end

