-- ==== Sys2Proof/Laws/Bank.lean ====
section
/-! SUPPORT. What reading a bank after a write, a fill, a table of values or a map gives. -/

namespace Sys2Proof.Bank

variable {α β : Type} {n : Nat}

@[simp] theorem read_write_same (b : Bank α n) (i : Fin n) (x : α) : (b.write i x).read i = x :=
  List.getElem_set_self _

theorem read_write_other (b : Bank α n) {i j : Fin n} (h : i ≠ j) (x : α) :
    (b.write i x).read j = b.read j := by
  have : i.val ≠ j.val := fun e => h (Fin.ext e)
  exact List.getElem_set_ne this _

theorem read_write (b : Bank α n) (i j : Fin n) (x : α) :
    (b.write i x).read j = if i = j then x else b.read j := by
  by_cases h : i = j
  · subst h; simp
  · simp [h, read_write_other b h x]

@[simp] theorem read_fill (x : α) (i : Fin n) : (fill n x).read i = x := by simp [read, fill]

@[simp] theorem read_ofFn (f : Fin n → α) (i : Fin n) : (ofFn f).read i = f i :=
  List.getElem_ofFn _

@[simp] theorem read_map (f : α → β) (b : Bank α n) (i : Fin n) : (b.map f).read i = f (b.read i) :=
  List.getElem_map _

/-- Two banks that read alike everywhere are one. -/
theorem ext_read {b c : Bank α n} (h : ∀ i, b.read i = c.read i) : b = c := by
  obtain ⟨bs, hb⟩ := b
  obtain ⟨cs, hc⟩ := c
  have : bs = cs := by
    refine List.ext_getElem (hb.trans hc.symm) fun k h1 h2 => ?_
    have := h ⟨k, hb ▸ h1⟩
    simpa [read] using this
  subst this
  rfl

/-- Some cell satisfies a test exactly when one that can be read does. -/
theorem any_iff (b : Bank α n) (p : α → Bool) : b.any p = true ↔ ∃ i, p (b.read i) = true := by
  obtain ⟨l, hl⟩ := b
  subst hl
  simp only [any, List.any_eq_true, read]
  constructor
  · rintro ⟨x, hx, hp⟩
    obtain ⟨k, hk, rfl⟩ := List.getElem_of_mem hx
    exact ⟨⟨k, hk⟩, by simpa using hp⟩
  · rintro ⟨i, hp⟩
    exact ⟨_, List.get_mem l _, hp⟩

/-- Every cell satisfies a test exactly when each that can be read does. -/
theorem all_iff (b : Bank α n) (p : α → Bool) : b.all p = true ↔ ∀ i, p (b.read i) = true := by
  obtain ⟨l, hl⟩ := b
  subst hl
  simp only [all, List.all_eq_true, read]
  constructor
  · intro h i
    exact h _ (List.get_mem l _)
  · intro h x hx
    obtain ⟨k, hk, rfl⟩ := List.getElem_of_mem hx
    simpa using h ⟨k, hk⟩

/-- Writing back what a cell holds changes nothing. -/
theorem write_read (b : Bank α n) (i : Fin n) : b.write i (b.read i) = b :=
  ext_read fun j => by rw [read_write]; split <;> simp_all

end Sys2Proof.Bank
end

