-- ==== Sys2Proof/Laws/State.lean ====
section
/-! SUPPORT. One lemma per field per update of the state and of the work of an event, so that no later
proof unfolds a record update. -/

namespace Sys2Proof.Machine

@[simp] theorem State.setTime_time (s : State) (x : Word) : (s.setTime x).time = x := rfl
@[simp] theorem State.setTime_lr (s : State) (x : Word) : (s.setTime x).lr = s.lr := rfl
@[simp] theorem State.setTime_si (s : State) (x : Word) : (s.setTime x).si = s.si := rfl
@[simp] theorem State.setTime_du (s : State) (x : Word) : (s.setTime x).du = s.du := rfl
@[simp] theorem State.setTime_lu (s : State) (x : Word) : (s.setTime x).lu = s.lu := rfl
@[simp] theorem State.setTime_bt (s : State) (x : Word) : (s.setTime x).bt = s.bt := rfl
@[simp] theorem State.setTime_tu (s : State) (x : Word) : (s.setTime x).tu = s.tu := rfl
@[simp] theorem State.setTime_su (s : State) (x : Word) : (s.setTime x).su = s.su := rfl
@[simp] theorem State.setTime_nu (s : State) (x : Word) : (s.setTime x).nu = s.nu := rfl
@[simp] theorem State.setTime_sc (s : State) (x : Word) : (s.setTime x).sc = s.sc := rfl
@[simp] theorem State.setTime_me (s : State) (x : Word) : (s.setTime x).me = s.me := rfl
@[simp] theorem State.setTime_ts (s : State) (x : Word) : (s.setTime x).ts = s.ts := rfl
@[simp] theorem State.setTime_tables (s : State) (x : Word) : (s.setTime x).tables = s.tables := rfl
@[simp] theorem State.setTime_pending (s : State) (x : Word) : (s.setTime x).pending = s.pending := rfl
@[simp] theorem State.setTime_owed (s : State) (x : Word) : (s.setTime x).owed = s.owed := rfl

@[simp] theorem State.setLr_time (s : State) (x : LinkRouter) : (s.setLr x).time = s.time := rfl
@[simp] theorem State.setLr_lr (s : State) (x : LinkRouter) : (s.setLr x).lr = x := rfl
@[simp] theorem State.setLr_si (s : State) (x : LinkRouter) : (s.setLr x).si = s.si := rfl
@[simp] theorem State.setLr_du (s : State) (x : LinkRouter) : (s.setLr x).du = s.du := rfl
@[simp] theorem State.setLr_lu (s : State) (x : LinkRouter) : (s.setLr x).lu = s.lu := rfl
@[simp] theorem State.setLr_bt (s : State) (x : LinkRouter) : (s.setLr x).bt = s.bt := rfl
@[simp] theorem State.setLr_tu (s : State) (x : LinkRouter) : (s.setLr x).tu = s.tu := rfl
@[simp] theorem State.setLr_su (s : State) (x : LinkRouter) : (s.setLr x).su = s.su := rfl
@[simp] theorem State.setLr_nu (s : State) (x : LinkRouter) : (s.setLr x).nu = s.nu := rfl
@[simp] theorem State.setLr_sc (s : State) (x : LinkRouter) : (s.setLr x).sc = s.sc := rfl
@[simp] theorem State.setLr_me (s : State) (x : LinkRouter) : (s.setLr x).me = s.me := rfl
@[simp] theorem State.setLr_ts (s : State) (x : LinkRouter) : (s.setLr x).ts = s.ts := rfl
@[simp] theorem State.setLr_tables (s : State) (x : LinkRouter) : (s.setLr x).tables = s.tables := rfl
@[simp] theorem State.setLr_pending (s : State) (x : LinkRouter) : (s.setLr x).pending = s.pending := rfl
@[simp] theorem State.setLr_owed (s : State) (x : LinkRouter) : (s.setLr x).owed = s.owed := rfl

@[simp] theorem State.setSi_time (s : State) (x : SampleIntake) : (s.setSi x).time = s.time := rfl
@[simp] theorem State.setSi_lr (s : State) (x : SampleIntake) : (s.setSi x).lr = s.lr := rfl
@[simp] theorem State.setSi_si (s : State) (x : SampleIntake) : (s.setSi x).si = x := rfl
@[simp] theorem State.setSi_du (s : State) (x : SampleIntake) : (s.setSi x).du = s.du := rfl
@[simp] theorem State.setSi_lu (s : State) (x : SampleIntake) : (s.setSi x).lu = s.lu := rfl
@[simp] theorem State.setSi_bt (s : State) (x : SampleIntake) : (s.setSi x).bt = s.bt := rfl
@[simp] theorem State.setSi_tu (s : State) (x : SampleIntake) : (s.setSi x).tu = s.tu := rfl
@[simp] theorem State.setSi_su (s : State) (x : SampleIntake) : (s.setSi x).su = s.su := rfl
@[simp] theorem State.setSi_nu (s : State) (x : SampleIntake) : (s.setSi x).nu = s.nu := rfl
@[simp] theorem State.setSi_sc (s : State) (x : SampleIntake) : (s.setSi x).sc = s.sc := rfl
@[simp] theorem State.setSi_me (s : State) (x : SampleIntake) : (s.setSi x).me = s.me := rfl
@[simp] theorem State.setSi_ts (s : State) (x : SampleIntake) : (s.setSi x).ts = s.ts := rfl
@[simp] theorem State.setSi_tables (s : State) (x : SampleIntake) : (s.setSi x).tables = s.tables := rfl
@[simp] theorem State.setSi_pending (s : State) (x : SampleIntake) : (s.setSi x).pending = s.pending := rfl
@[simp] theorem State.setSi_owed (s : State) (x : SampleIntake) : (s.setSi x).owed = s.owed := rfl

@[simp] theorem State.setDu_time (s : State) (x : DemandUnit) : (s.setDu x).time = s.time := rfl
@[simp] theorem State.setDu_lr (s : State) (x : DemandUnit) : (s.setDu x).lr = s.lr := rfl
@[simp] theorem State.setDu_si (s : State) (x : DemandUnit) : (s.setDu x).si = s.si := rfl
@[simp] theorem State.setDu_du (s : State) (x : DemandUnit) : (s.setDu x).du = x := rfl
@[simp] theorem State.setDu_lu (s : State) (x : DemandUnit) : (s.setDu x).lu = s.lu := rfl
@[simp] theorem State.setDu_bt (s : State) (x : DemandUnit) : (s.setDu x).bt = s.bt := rfl
@[simp] theorem State.setDu_tu (s : State) (x : DemandUnit) : (s.setDu x).tu = s.tu := rfl
@[simp] theorem State.setDu_su (s : State) (x : DemandUnit) : (s.setDu x).su = s.su := rfl
@[simp] theorem State.setDu_nu (s : State) (x : DemandUnit) : (s.setDu x).nu = s.nu := rfl
@[simp] theorem State.setDu_sc (s : State) (x : DemandUnit) : (s.setDu x).sc = s.sc := rfl
@[simp] theorem State.setDu_me (s : State) (x : DemandUnit) : (s.setDu x).me = s.me := rfl
@[simp] theorem State.setDu_ts (s : State) (x : DemandUnit) : (s.setDu x).ts = s.ts := rfl
@[simp] theorem State.setDu_tables (s : State) (x : DemandUnit) : (s.setDu x).tables = s.tables := rfl
@[simp] theorem State.setDu_pending (s : State) (x : DemandUnit) : (s.setDu x).pending = s.pending := rfl
@[simp] theorem State.setDu_owed (s : State) (x : DemandUnit) : (s.setDu x).owed = s.owed := rfl

@[simp] theorem State.setLu_time (s : State) (x : Bank GroupRun 3) : (s.setLu x).time = s.time := rfl
@[simp] theorem State.setLu_lr (s : State) (x : Bank GroupRun 3) : (s.setLu x).lr = s.lr := rfl
@[simp] theorem State.setLu_si (s : State) (x : Bank GroupRun 3) : (s.setLu x).si = s.si := rfl
@[simp] theorem State.setLu_du (s : State) (x : Bank GroupRun 3) : (s.setLu x).du = s.du := rfl
@[simp] theorem State.setLu_lu (s : State) (x : Bank GroupRun 3) : (s.setLu x).lu = x := rfl
@[simp] theorem State.setLu_bt (s : State) (x : Bank GroupRun 3) : (s.setLu x).bt = s.bt := rfl
@[simp] theorem State.setLu_tu (s : State) (x : Bank GroupRun 3) : (s.setLu x).tu = s.tu := rfl
@[simp] theorem State.setLu_su (s : State) (x : Bank GroupRun 3) : (s.setLu x).su = s.su := rfl
@[simp] theorem State.setLu_nu (s : State) (x : Bank GroupRun 3) : (s.setLu x).nu = s.nu := rfl
@[simp] theorem State.setLu_sc (s : State) (x : Bank GroupRun 3) : (s.setLu x).sc = s.sc := rfl
@[simp] theorem State.setLu_me (s : State) (x : Bank GroupRun 3) : (s.setLu x).me = s.me := rfl
@[simp] theorem State.setLu_ts (s : State) (x : Bank GroupRun 3) : (s.setLu x).ts = s.ts := rfl
@[simp] theorem State.setLu_tables (s : State) (x : Bank GroupRun 3) : (s.setLu x).tables = s.tables := rfl
@[simp] theorem State.setLu_pending (s : State) (x : Bank GroupRun 3) : (s.setLu x).pending = s.pending := rfl
@[simp] theorem State.setLu_owed (s : State) (x : Bank GroupRun 3) : (s.setLu x).owed = s.owed := rfl

@[simp] theorem State.setBt_time (s : State) (x : BrakeUnit) : (s.setBt x).time = s.time := rfl
@[simp] theorem State.setBt_lr (s : State) (x : BrakeUnit) : (s.setBt x).lr = s.lr := rfl
@[simp] theorem State.setBt_si (s : State) (x : BrakeUnit) : (s.setBt x).si = s.si := rfl
@[simp] theorem State.setBt_du (s : State) (x : BrakeUnit) : (s.setBt x).du = s.du := rfl
@[simp] theorem State.setBt_lu (s : State) (x : BrakeUnit) : (s.setBt x).lu = s.lu := rfl
@[simp] theorem State.setBt_bt (s : State) (x : BrakeUnit) : (s.setBt x).bt = x := rfl
@[simp] theorem State.setBt_tu (s : State) (x : BrakeUnit) : (s.setBt x).tu = s.tu := rfl
@[simp] theorem State.setBt_su (s : State) (x : BrakeUnit) : (s.setBt x).su = s.su := rfl
@[simp] theorem State.setBt_nu (s : State) (x : BrakeUnit) : (s.setBt x).nu = s.nu := rfl
@[simp] theorem State.setBt_sc (s : State) (x : BrakeUnit) : (s.setBt x).sc = s.sc := rfl
@[simp] theorem State.setBt_me (s : State) (x : BrakeUnit) : (s.setBt x).me = s.me := rfl
@[simp] theorem State.setBt_ts (s : State) (x : BrakeUnit) : (s.setBt x).ts = s.ts := rfl
@[simp] theorem State.setBt_tables (s : State) (x : BrakeUnit) : (s.setBt x).tables = s.tables := rfl
@[simp] theorem State.setBt_pending (s : State) (x : BrakeUnit) : (s.setBt x).pending = s.pending := rfl
@[simp] theorem State.setBt_owed (s : State) (x : BrakeUnit) : (s.setBt x).owed = s.owed := rfl

@[simp] theorem State.setTu_time (s : State) (x : TyreUnit) : (s.setTu x).time = s.time := rfl
@[simp] theorem State.setTu_lr (s : State) (x : TyreUnit) : (s.setTu x).lr = s.lr := rfl
@[simp] theorem State.setTu_si (s : State) (x : TyreUnit) : (s.setTu x).si = s.si := rfl
@[simp] theorem State.setTu_du (s : State) (x : TyreUnit) : (s.setTu x).du = s.du := rfl
@[simp] theorem State.setTu_lu (s : State) (x : TyreUnit) : (s.setTu x).lu = s.lu := rfl
@[simp] theorem State.setTu_bt (s : State) (x : TyreUnit) : (s.setTu x).bt = s.bt := rfl
@[simp] theorem State.setTu_tu (s : State) (x : TyreUnit) : (s.setTu x).tu = x := rfl
@[simp] theorem State.setTu_su (s : State) (x : TyreUnit) : (s.setTu x).su = s.su := rfl
@[simp] theorem State.setTu_nu (s : State) (x : TyreUnit) : (s.setTu x).nu = s.nu := rfl
@[simp] theorem State.setTu_sc (s : State) (x : TyreUnit) : (s.setTu x).sc = s.sc := rfl
@[simp] theorem State.setTu_me (s : State) (x : TyreUnit) : (s.setTu x).me = s.me := rfl
@[simp] theorem State.setTu_ts (s : State) (x : TyreUnit) : (s.setTu x).ts = s.ts := rfl
@[simp] theorem State.setTu_tables (s : State) (x : TyreUnit) : (s.setTu x).tables = s.tables := rfl
@[simp] theorem State.setTu_pending (s : State) (x : TyreUnit) : (s.setTu x).pending = s.pending := rfl
@[simp] theorem State.setTu_owed (s : State) (x : TyreUnit) : (s.setTu x).owed = s.owed := rfl

@[simp] theorem State.setSu_time (s : State) (x : StabUnit) : (s.setSu x).time = s.time := rfl
@[simp] theorem State.setSu_lr (s : State) (x : StabUnit) : (s.setSu x).lr = s.lr := rfl
@[simp] theorem State.setSu_si (s : State) (x : StabUnit) : (s.setSu x).si = s.si := rfl
@[simp] theorem State.setSu_du (s : State) (x : StabUnit) : (s.setSu x).du = s.du := rfl
@[simp] theorem State.setSu_lu (s : State) (x : StabUnit) : (s.setSu x).lu = s.lu := rfl
@[simp] theorem State.setSu_bt (s : State) (x : StabUnit) : (s.setSu x).bt = s.bt := rfl
@[simp] theorem State.setSu_tu (s : State) (x : StabUnit) : (s.setSu x).tu = s.tu := rfl
@[simp] theorem State.setSu_su (s : State) (x : StabUnit) : (s.setSu x).su = x := rfl
@[simp] theorem State.setSu_nu (s : State) (x : StabUnit) : (s.setSu x).nu = s.nu := rfl
@[simp] theorem State.setSu_sc (s : State) (x : StabUnit) : (s.setSu x).sc = s.sc := rfl
@[simp] theorem State.setSu_me (s : State) (x : StabUnit) : (s.setSu x).me = s.me := rfl
@[simp] theorem State.setSu_ts (s : State) (x : StabUnit) : (s.setSu x).ts = s.ts := rfl
@[simp] theorem State.setSu_tables (s : State) (x : StabUnit) : (s.setSu x).tables = s.tables := rfl
@[simp] theorem State.setSu_pending (s : State) (x : StabUnit) : (s.setSu x).pending = s.pending := rfl
@[simp] theorem State.setSu_owed (s : State) (x : StabUnit) : (s.setSu x).owed = s.owed := rfl

@[simp] theorem State.setNu_time (s : State) (x : NoticeUnit) : (s.setNu x).time = s.time := rfl
@[simp] theorem State.setNu_lr (s : State) (x : NoticeUnit) : (s.setNu x).lr = s.lr := rfl
@[simp] theorem State.setNu_si (s : State) (x : NoticeUnit) : (s.setNu x).si = s.si := rfl
@[simp] theorem State.setNu_du (s : State) (x : NoticeUnit) : (s.setNu x).du = s.du := rfl
@[simp] theorem State.setNu_lu (s : State) (x : NoticeUnit) : (s.setNu x).lu = s.lu := rfl
@[simp] theorem State.setNu_bt (s : State) (x : NoticeUnit) : (s.setNu x).bt = s.bt := rfl
@[simp] theorem State.setNu_tu (s : State) (x : NoticeUnit) : (s.setNu x).tu = s.tu := rfl
@[simp] theorem State.setNu_su (s : State) (x : NoticeUnit) : (s.setNu x).su = s.su := rfl
@[simp] theorem State.setNu_nu (s : State) (x : NoticeUnit) : (s.setNu x).nu = x := rfl
@[simp] theorem State.setNu_sc (s : State) (x : NoticeUnit) : (s.setNu x).sc = s.sc := rfl
@[simp] theorem State.setNu_me (s : State) (x : NoticeUnit) : (s.setNu x).me = s.me := rfl
@[simp] theorem State.setNu_ts (s : State) (x : NoticeUnit) : (s.setNu x).ts = s.ts := rfl
@[simp] theorem State.setNu_tables (s : State) (x : NoticeUnit) : (s.setNu x).tables = s.tables := rfl
@[simp] theorem State.setNu_pending (s : State) (x : NoticeUnit) : (s.setNu x).pending = s.pending := rfl
@[simp] theorem State.setNu_owed (s : State) (x : NoticeUnit) : (s.setNu x).owed = s.owed := rfl

@[simp] theorem State.setSc_time (s : State) (x : StatusUnit) : (s.setSc x).time = s.time := rfl
@[simp] theorem State.setSc_lr (s : State) (x : StatusUnit) : (s.setSc x).lr = s.lr := rfl
@[simp] theorem State.setSc_si (s : State) (x : StatusUnit) : (s.setSc x).si = s.si := rfl
@[simp] theorem State.setSc_du (s : State) (x : StatusUnit) : (s.setSc x).du = s.du := rfl
@[simp] theorem State.setSc_lu (s : State) (x : StatusUnit) : (s.setSc x).lu = s.lu := rfl
@[simp] theorem State.setSc_bt (s : State) (x : StatusUnit) : (s.setSc x).bt = s.bt := rfl
@[simp] theorem State.setSc_tu (s : State) (x : StatusUnit) : (s.setSc x).tu = s.tu := rfl
@[simp] theorem State.setSc_su (s : State) (x : StatusUnit) : (s.setSc x).su = s.su := rfl
@[simp] theorem State.setSc_nu (s : State) (x : StatusUnit) : (s.setSc x).nu = s.nu := rfl
@[simp] theorem State.setSc_sc (s : State) (x : StatusUnit) : (s.setSc x).sc = x := rfl
@[simp] theorem State.setSc_me (s : State) (x : StatusUnit) : (s.setSc x).me = s.me := rfl
@[simp] theorem State.setSc_ts (s : State) (x : StatusUnit) : (s.setSc x).ts = s.ts := rfl
@[simp] theorem State.setSc_tables (s : State) (x : StatusUnit) : (s.setSc x).tables = s.tables := rfl
@[simp] theorem State.setSc_pending (s : State) (x : StatusUnit) : (s.setSc x).pending = s.pending := rfl
@[simp] theorem State.setSc_owed (s : State) (x : StatusUnit) : (s.setSc x).owed = s.owed := rfl

@[simp] theorem State.setMe_time (s : State) (x : ManageUnit) : (s.setMe x).time = s.time := rfl
@[simp] theorem State.setMe_lr (s : State) (x : ManageUnit) : (s.setMe x).lr = s.lr := rfl
@[simp] theorem State.setMe_si (s : State) (x : ManageUnit) : (s.setMe x).si = s.si := rfl
@[simp] theorem State.setMe_du (s : State) (x : ManageUnit) : (s.setMe x).du = s.du := rfl
@[simp] theorem State.setMe_lu (s : State) (x : ManageUnit) : (s.setMe x).lu = s.lu := rfl
@[simp] theorem State.setMe_bt (s : State) (x : ManageUnit) : (s.setMe x).bt = s.bt := rfl
@[simp] theorem State.setMe_tu (s : State) (x : ManageUnit) : (s.setMe x).tu = s.tu := rfl
@[simp] theorem State.setMe_su (s : State) (x : ManageUnit) : (s.setMe x).su = s.su := rfl
@[simp] theorem State.setMe_nu (s : State) (x : ManageUnit) : (s.setMe x).nu = s.nu := rfl
@[simp] theorem State.setMe_sc (s : State) (x : ManageUnit) : (s.setMe x).sc = s.sc := rfl
@[simp] theorem State.setMe_me (s : State) (x : ManageUnit) : (s.setMe x).me = x := rfl
@[simp] theorem State.setMe_ts (s : State) (x : ManageUnit) : (s.setMe x).ts = s.ts := rfl
@[simp] theorem State.setMe_tables (s : State) (x : ManageUnit) : (s.setMe x).tables = s.tables := rfl
@[simp] theorem State.setMe_pending (s : State) (x : ManageUnit) : (s.setMe x).pending = s.pending := rfl
@[simp] theorem State.setMe_owed (s : State) (x : ManageUnit) : (s.setMe x).owed = s.owed := rfl

@[simp] theorem State.setTs_time (s : State) (x : StoreUnit) : (s.setTs x).time = s.time := rfl
@[simp] theorem State.setTs_lr (s : State) (x : StoreUnit) : (s.setTs x).lr = s.lr := rfl
@[simp] theorem State.setTs_si (s : State) (x : StoreUnit) : (s.setTs x).si = s.si := rfl
@[simp] theorem State.setTs_du (s : State) (x : StoreUnit) : (s.setTs x).du = s.du := rfl
@[simp] theorem State.setTs_lu (s : State) (x : StoreUnit) : (s.setTs x).lu = s.lu := rfl
@[simp] theorem State.setTs_bt (s : State) (x : StoreUnit) : (s.setTs x).bt = s.bt := rfl
@[simp] theorem State.setTs_tu (s : State) (x : StoreUnit) : (s.setTs x).tu = s.tu := rfl
@[simp] theorem State.setTs_su (s : State) (x : StoreUnit) : (s.setTs x).su = s.su := rfl
@[simp] theorem State.setTs_nu (s : State) (x : StoreUnit) : (s.setTs x).nu = s.nu := rfl
@[simp] theorem State.setTs_sc (s : State) (x : StoreUnit) : (s.setTs x).sc = s.sc := rfl
@[simp] theorem State.setTs_me (s : State) (x : StoreUnit) : (s.setTs x).me = s.me := rfl
@[simp] theorem State.setTs_ts (s : State) (x : StoreUnit) : (s.setTs x).ts = x := rfl
@[simp] theorem State.setTs_tables (s : State) (x : StoreUnit) : (s.setTs x).tables = s.tables := rfl
@[simp] theorem State.setTs_pending (s : State) (x : StoreUnit) : (s.setTs x).pending = s.pending := rfl
@[simp] theorem State.setTs_owed (s : State) (x : StoreUnit) : (s.setTs x).owed = s.owed := rfl

@[simp] theorem State.setTables_time (s : State) (x : Tables) : (s.setTables x).time = s.time := rfl
@[simp] theorem State.setTables_lr (s : State) (x : Tables) : (s.setTables x).lr = s.lr := rfl
@[simp] theorem State.setTables_si (s : State) (x : Tables) : (s.setTables x).si = s.si := rfl
@[simp] theorem State.setTables_du (s : State) (x : Tables) : (s.setTables x).du = s.du := rfl
@[simp] theorem State.setTables_lu (s : State) (x : Tables) : (s.setTables x).lu = s.lu := rfl
@[simp] theorem State.setTables_bt (s : State) (x : Tables) : (s.setTables x).bt = s.bt := rfl
@[simp] theorem State.setTables_tu (s : State) (x : Tables) : (s.setTables x).tu = s.tu := rfl
@[simp] theorem State.setTables_su (s : State) (x : Tables) : (s.setTables x).su = s.su := rfl
@[simp] theorem State.setTables_nu (s : State) (x : Tables) : (s.setTables x).nu = s.nu := rfl
@[simp] theorem State.setTables_sc (s : State) (x : Tables) : (s.setTables x).sc = s.sc := rfl
@[simp] theorem State.setTables_me (s : State) (x : Tables) : (s.setTables x).me = s.me := rfl
@[simp] theorem State.setTables_ts (s : State) (x : Tables) : (s.setTables x).ts = s.ts := rfl
@[simp] theorem State.setTables_tables (s : State) (x : Tables) : (s.setTables x).tables = x := rfl
@[simp] theorem State.setTables_pending (s : State) (x : Tables) : (s.setTables x).pending = s.pending := rfl
@[simp] theorem State.setTables_owed (s : State) (x : Tables) : (s.setTables x).owed = s.owed := rfl

@[simp] theorem State.setPending_time (s : State) (x : List Instr) : (s.setPending x).time = s.time := rfl
@[simp] theorem State.setPending_lr (s : State) (x : List Instr) : (s.setPending x).lr = s.lr := rfl
@[simp] theorem State.setPending_si (s : State) (x : List Instr) : (s.setPending x).si = s.si := rfl
@[simp] theorem State.setPending_du (s : State) (x : List Instr) : (s.setPending x).du = s.du := rfl
@[simp] theorem State.setPending_lu (s : State) (x : List Instr) : (s.setPending x).lu = s.lu := rfl
@[simp] theorem State.setPending_bt (s : State) (x : List Instr) : (s.setPending x).bt = s.bt := rfl
@[simp] theorem State.setPending_tu (s : State) (x : List Instr) : (s.setPending x).tu = s.tu := rfl
@[simp] theorem State.setPending_su (s : State) (x : List Instr) : (s.setPending x).su = s.su := rfl
@[simp] theorem State.setPending_nu (s : State) (x : List Instr) : (s.setPending x).nu = s.nu := rfl
@[simp] theorem State.setPending_sc (s : State) (x : List Instr) : (s.setPending x).sc = s.sc := rfl
@[simp] theorem State.setPending_me (s : State) (x : List Instr) : (s.setPending x).me = s.me := rfl
@[simp] theorem State.setPending_ts (s : State) (x : List Instr) : (s.setPending x).ts = s.ts := rfl
@[simp] theorem State.setPending_tables (s : State) (x : List Instr) : (s.setPending x).tables = s.tables := rfl
@[simp] theorem State.setPending_pending (s : State) (x : List Instr) : (s.setPending x).pending = x := rfl
@[simp] theorem State.setPending_owed (s : State) (x : List Instr) : (s.setPending x).owed = s.owed := rfl

@[simp] theorem State.setOwed_time (s : State) (x : List HandOff) : (s.setOwed x).time = s.time := rfl
@[simp] theorem State.setOwed_lr (s : State) (x : List HandOff) : (s.setOwed x).lr = s.lr := rfl
@[simp] theorem State.setOwed_si (s : State) (x : List HandOff) : (s.setOwed x).si = s.si := rfl
@[simp] theorem State.setOwed_du (s : State) (x : List HandOff) : (s.setOwed x).du = s.du := rfl
@[simp] theorem State.setOwed_lu (s : State) (x : List HandOff) : (s.setOwed x).lu = s.lu := rfl
@[simp] theorem State.setOwed_bt (s : State) (x : List HandOff) : (s.setOwed x).bt = s.bt := rfl
@[simp] theorem State.setOwed_tu (s : State) (x : List HandOff) : (s.setOwed x).tu = s.tu := rfl
@[simp] theorem State.setOwed_su (s : State) (x : List HandOff) : (s.setOwed x).su = s.su := rfl
@[simp] theorem State.setOwed_nu (s : State) (x : List HandOff) : (s.setOwed x).nu = s.nu := rfl
@[simp] theorem State.setOwed_sc (s : State) (x : List HandOff) : (s.setOwed x).sc = s.sc := rfl
@[simp] theorem State.setOwed_me (s : State) (x : List HandOff) : (s.setOwed x).me = s.me := rfl
@[simp] theorem State.setOwed_ts (s : State) (x : List HandOff) : (s.setOwed x).ts = s.ts := rfl
@[simp] theorem State.setOwed_tables (s : State) (x : List HandOff) : (s.setOwed x).tables = s.tables := rfl
@[simp] theorem State.setOwed_pending (s : State) (x : List HandOff) : (s.setOwed x).pending = s.pending := rfl
@[simp] theorem State.setOwed_owed (s : State) (x : List HandOff) : (s.setOwed x).owed = x := rfl

@[simp] theorem Work.setTime_st (w : Work) (x : Word) : (w.setTime x).st = w.st.setTime x := rfl
@[simp] theorem Work.setTime_todo (w : Work) (x : Word) : (w.setTime x).todo = w.todo := rfl
@[simp] theorem Work.setLr_st (w : Work) (x : LinkRouter) : (w.setLr x).st = w.st.setLr x := rfl
@[simp] theorem Work.setLr_todo (w : Work) (x : LinkRouter) : (w.setLr x).todo = w.todo := rfl
@[simp] theorem Work.setSi_st (w : Work) (x : SampleIntake) : (w.setSi x).st = w.st.setSi x := rfl
@[simp] theorem Work.setSi_todo (w : Work) (x : SampleIntake) : (w.setSi x).todo = w.todo := rfl
@[simp] theorem Work.setDu_st (w : Work) (x : DemandUnit) : (w.setDu x).st = w.st.setDu x := rfl
@[simp] theorem Work.setDu_todo (w : Work) (x : DemandUnit) : (w.setDu x).todo = w.todo := rfl
@[simp] theorem Work.setLu_st (w : Work) (x : Bank GroupRun 3) : (w.setLu x).st = w.st.setLu x := rfl
@[simp] theorem Work.setLu_todo (w : Work) (x : Bank GroupRun 3) : (w.setLu x).todo = w.todo := rfl
@[simp] theorem Work.setBt_st (w : Work) (x : BrakeUnit) : (w.setBt x).st = w.st.setBt x := rfl
@[simp] theorem Work.setBt_todo (w : Work) (x : BrakeUnit) : (w.setBt x).todo = w.todo := rfl
@[simp] theorem Work.setTu_st (w : Work) (x : TyreUnit) : (w.setTu x).st = w.st.setTu x := rfl
@[simp] theorem Work.setTu_todo (w : Work) (x : TyreUnit) : (w.setTu x).todo = w.todo := rfl
@[simp] theorem Work.setSu_st (w : Work) (x : StabUnit) : (w.setSu x).st = w.st.setSu x := rfl
@[simp] theorem Work.setSu_todo (w : Work) (x : StabUnit) : (w.setSu x).todo = w.todo := rfl
@[simp] theorem Work.setNu_st (w : Work) (x : NoticeUnit) : (w.setNu x).st = w.st.setNu x := rfl
@[simp] theorem Work.setNu_todo (w : Work) (x : NoticeUnit) : (w.setNu x).todo = w.todo := rfl
@[simp] theorem Work.setSc_st (w : Work) (x : StatusUnit) : (w.setSc x).st = w.st.setSc x := rfl
@[simp] theorem Work.setSc_todo (w : Work) (x : StatusUnit) : (w.setSc x).todo = w.todo := rfl
@[simp] theorem Work.setMe_st (w : Work) (x : ManageUnit) : (w.setMe x).st = w.st.setMe x := rfl
@[simp] theorem Work.setMe_todo (w : Work) (x : ManageUnit) : (w.setMe x).todo = w.todo := rfl
@[simp] theorem Work.setTs_st (w : Work) (x : StoreUnit) : (w.setTs x).st = w.st.setTs x := rfl
@[simp] theorem Work.setTs_todo (w : Work) (x : StoreUnit) : (w.setTs x).todo = w.todo := rfl
@[simp] theorem Work.setTables_st (w : Work) (x : Tables) : (w.setTables x).st = w.st.setTables x := rfl
@[simp] theorem Work.setTables_todo (w : Work) (x : Tables) : (w.setTables x).todo = w.todo := rfl

@[simp] theorem Work.emit_st (w : Work) (h : HandOff) : (w.emit h).st = w.st := rfl
@[simp] theorem Work.emit_todo (w : Work) (h : HandOff) : (w.emit h).todo = w.todo ++ [h] := rfl
@[simp] theorem Work.emitAll_st (w : Work) (hs : List HandOff) : (w.emitAll hs).st = w.st := rfl
@[simp] theorem Work.emitAll_todo (w : Work) (hs : List HandOff) : (w.emitAll hs).todo = w.todo ++ hs := rfl
@[simp] theorem Work.begin_st (s : State) : (Work.begin s).st = s.setOwed [] := rfl
@[simp] theorem Work.begin_todo (s : State) : (Work.begin s).todo = s.owed := rfl
@[simp] theorem Work.finish_eq (w : Work) : w.finish = w.st.setOwed w.todo := rfl
@[simp] theorem Work.setChannel_st (w : Work) (c : Fin 6) (r : ChannelRun) :
    (w.setChannel c r).st = w.st.setBt { w.st.bt with channels := w.st.bt.channels.write c r } := rfl
@[simp] theorem Work.setChannel_todo (w : Work) (c : Fin 6) (r : ChannelRun) :
    (w.setChannel c r).todo = w.todo := rfl
@[simp] theorem Work.setCheck_st (w : Work) (k : PathCheck) :
    (w.setCheck k).st = w.st.setBt { w.st.bt with check := k } := rfl
@[simp] theorem Work.setCheck_todo (w : Work) (k : PathCheck) : (w.setCheck k).todo = w.todo := rfl
@[simp] theorem Work.setWheel_st (w : Work) (p : Fin 24) (r : WheelRun) :
    (w.setWheel p r).st = w.st.setTu { w.st.tu with wheels := w.st.tu.wheels.write p r } := rfl
@[simp] theorem Work.setWheel_todo (w : Work) (p : Fin 24) (r : WheelRun) : (w.setWheel p r).todo = w.todo := rfl
@[simp] theorem Work.loadWheel_st (w : Work) (p : Fin 24) (r : WheelRun) :
    (w.loadWheel p r).st = w.st.setTu
      { w.st.tu with
        wheels := w.st.tu.wheels.write p r, justLoaded := w.st.tu.justLoaded.write p w.st.tu.tickDue } := rfl
@[simp] theorem Work.loadWheel_todo (w : Work) (p : Fin 24) (r : WheelRun) :
    (w.loadWheel p r).todo = w.todo := rfl
@[simp] theorem Work.setLearn_st (w : Work) (l : LearnRec) :
    (w.setLearn l).st = w.st.setTu { w.st.tu with learn := l } := rfl
@[simp] theorem Work.setLearn_todo (w : Work) (l : LearnRec) : (w.setLearn l).todo = w.todo := rfl
@[simp] theorem Work.setInput_st (w : Work) (p : Pin) (r : InputRec) :
    (w.setInput p r).st = w.st.setSi (w.st.si.setInput p r) := rfl
@[simp] theorem Work.setInput_todo (w : Work) (p : Pin) (r : InputRec) : (w.setInput p r).todo = w.todo := rfl
@[simp] theorem Work.setSensorId_todo (w : Work) (p : Fin 24) (id : Option Word) :
    (w.setSensorId p id).todo = w.todo := rfl
@[simp] theorem Work.setWheelRec_todo (w : Work) (p : Fin 24) (r : WheelRec) :
    (w.setWheelRec p r).todo = w.todo := rfl

end Sys2Proof.Machine
end

