-- ==== Sys2Proof/Laws/Frame.lean ====
section
/-! SUPPORT. What the hand-offs of an event leave as it was, whatever they are: the background of the
state. Each function of a unit has one lemma; `settle_background` says it of a whole event. -/

namespace Sys2Proof.Machine

/-- What an offer to a port's queue leaves of the port: its queue stays only while it is OFF. -/
def PortRec.fixed (p : PortRec) : Bool × Timer × Nat × Nat × List QMsg :=
  (p.on, p.offTimer, p.txErrors, p.rxErrors, if p.on then [] else p.queue)

/-- The part of the state that no hand-off changes. -/
structure Background where
  time : Word
  pending : List Instr
  tables : Tables
  routes : Bank RouteSlot 64
  ownPos : Option Nat
  flSilence : Timer
  rlSilence : Timer
  fl : Bool × Timer × Nat × Nat × List QMsg
  rl : PortRec
  wb : Bool × Timer × Nat × Nat × List QMsg
  records : Bank ChannelRec 18
  repeatCount : Nat
  bellows : Bank (List Int) 3
  lateral : List Int
  link : LinkState
  lastCounter : Option (BitVec 4)
  lastDemand : Option Nat
  lastSpeed : Option Nat
  chainFlag : Bool
  parkFlag : Bool
  timeout : Timer
  recovery : Nat
  rear : Bank Bool 3
  bufferFl : Option Assembly
  bufferWb : Option Assembly
  restartPending : Bool
  restartTimer : Timer
  generation : Word
  writing : Option (Fin 8)
  limit : Timer
  startTimer : Timer
  image : Image

/-- The background of a state. -/
def State.background (s : State) : Background :=
  { time := s.time, pending := s.pending, tables := s.tables, routes := s.lr.routes, ownPos := s.lr.ownPos,
    flSilence := s.lr.flSilence, rlSilence := s.lr.rlSilence,
    fl := (s.lr.ports.read 0).fixed, rl := s.lr.ports.read 1, wb := (s.lr.ports.read 2).fixed,
    records := s.si.records, repeatCount := s.si.repeatCount, bellows := s.si.bellows,
    lateral := s.si.lateral, link := s.du.link, lastCounter := s.du.lastCounter,
    lastDemand := s.du.lastDemand, lastSpeed := s.du.lastSpeed, chainFlag := s.du.chainFlag,
    parkFlag := s.du.parkFlag, timeout := s.du.timeout, recovery := s.du.recovery, rear := s.sc.rear,
    bufferFl := s.me.bufferFl, bufferWb := s.me.bufferWb, restartPending := s.me.restartPending,
    restartTimer := s.me.restartTimer, generation := s.ts.generation, writing := s.ts.writing,
    limit := s.ts.limit, startTimer := s.ts.startTimer, image := s.ts.image }

section updates
variable (s : State)

@[simp] theorem State.setLu_background (x : Bank GroupRun 3) : (s.setLu x).background = s.background := rfl
@[simp] theorem State.setBt_background (x : BrakeUnit) : (s.setBt x).background = s.background := rfl
@[simp] theorem State.setTu_background (x : TyreUnit) : (s.setTu x).background = s.background := rfl
@[simp] theorem State.setSu_background (x : StabUnit) : (s.setSu x).background = s.background := rfl
@[simp] theorem State.setNu_background (x : NoticeUnit) : (s.setNu x).background = s.background := rfl

theorem State.setSi_background {x : SampleIntake} (h1 : x.records = s.si.records)
    (h2 : x.repeatCount = s.si.repeatCount) (h3 : x.bellows = s.si.bellows) (h4 : x.lateral = s.si.lateral) :
    (s.setSi x).background = s.background := by
  simp [State.background, h1, h2, h3, h4]

theorem State.setDu_background {x : DemandUnit} (h1 : x.link = s.du.link)
    (h2 : x.lastCounter = s.du.lastCounter) (h3 : x.lastDemand = s.du.lastDemand)
    (h4 : x.lastSpeed = s.du.lastSpeed) (h5 : x.chainFlag = s.du.chainFlag)
    (h6 : x.parkFlag = s.du.parkFlag) (h7 : x.timeout = s.du.timeout) (h8 : x.recovery = s.du.recovery) :
    (s.setDu x).background = s.background := by
  simp [State.background, h1, h2, h3, h4, h5, h6, h7, h8]

theorem State.setSc_background {x : StatusUnit} (h : x.rear = s.sc.rear) :
    (s.setSc x).background = s.background := by
  simp [State.background, h]

theorem State.setMe_background {x : ManageUnit} (h1 : x.bufferFl = s.me.bufferFl)
    (h2 : x.bufferWb = s.me.bufferWb) (h3 : x.restartPending = s.me.restartPending)
    (h4 : x.restartTimer = s.me.restartTimer) : (s.setMe x).background = s.background := by
  simp [State.background, h1, h2, h3, h4]

theorem State.setTs_background {x : StoreUnit} (h1 : x.generation = s.ts.generation)
    (h2 : x.writing = s.ts.writing) (h3 : x.limit = s.ts.limit) (h4 : x.startTimer = s.ts.startTimer)
    (h5 : x.image = s.ts.image) : (s.setTs x).background = s.background := by
  simp [State.background, h1, h2, h3, h4, h5]

end updates

/-- An offer to FL or WB leaves the background. -/
theorem pushMsg_background (s : State) {p : Port} (hp : p ≠ .rl) (m : QMsg) :
    (pushMsg s p m).1.background = s.background := by
  unfold pushMsg
  split
  · next h =>
    cases p
    · simp only [State.port, portIndex] at h
      simp [State.setPort, State.background, State.port, portIndex, PortRec.fixed, Bank.read_write, h]
    · exact absurd rfl hp
    · simp only [State.port, portIndex] at h
      simp [State.setPort, State.background, State.port, portIndex, PortRec.fixed, Bank.read_write, h]
  · rfl

section flags

@[simp] theorem judgeLamp_background (w : Work) : (judgeLamp w).st.background = w.st.background := by
  unfold judgeLamp; split <;> simp

@[simp] theorem judgeClasses_background (n : Nat) (w : Work) :
    (judgeClasses n w).st.background = w.st.background := by
  unfold judgeClasses; split <;> simp

@[simp] theorem setPresent_background (k : NoticeKind) (b : Bool) (w : Work) :
    (setPresent k b w).st.background = w.st.background := by
  unfold setPresent; split <;> simp

@[simp] theorem takeTrigger_background (k : NoticeKind) (w : Work) :
    (takeTrigger k w).st.background = w.st.background := by
  unfold takeTrigger; split <;> simp

@[simp] theorem recordOccurrence_background (k : NoticeKind) (d : Half) (w : Work) :
    (recordOccurrence k d w).st.background = w.st.background := by
  simp [recordOccurrence]

@[simp] theorem raiseUpTo_background (n : Nat) (k : NoticeKind) (d : Half) (w : Work) :
    (raiseUpTo n k d w).st.background = w.st.background := by
  induction n generalizing k d w with
  | zero => simp [raiseUpTo]
  | succ n ih =>
    have h := pushMsg_background (recordOccurrence k d w).st (p := .fl) (by decide)
      (noticeMsg (recordOccurrence k d w).st k)
    unfold raiseUpTo
    dsimp only
    split
    · simp
    · split
      · rw [ih]; simpa using h
      · simpa using h

@[simp] theorem raise_background (k : NoticeKind) (d : Half) (w : Work) :
    (raise k d w).st.background = w.st.background := raiseUpTo_background 3 k d w

theorem offer_background {p : Port} (hp : p ≠ .rl) (m : QMsg) (w : Work) :
    (offer p m w).1.st.background = w.st.background := by
  have h := pushMsg_background w.st hp m
  unfold offer
  dsimp only
  split <;> simpa using h

@[simp] theorem offer_fl_background (m : QMsg) (w : Work) :
    (offer .fl m w).1.st.background = w.st.background := offer_background (by decide) m w

@[simp] theorem offer_wb_background (m : QMsg) (w : Work) :
    (offer .wb m w).1.st.background = w.st.background := offer_background (by decide) m w

@[simp] theorem setEnables_background (i : Fin 24) (e : Enables) (w : Work) :
    (setEnables i e w).st.background = w.st.background := by
  simp [setEnables]

@[simp] theorem reloadEnables_background (w : Work) :
    (reloadEnables w).st.background = w.st.background := by
  simp [reloadEnables]

@[simp] theorem clearKind_background (k : NoticeKind) (w : Work) :
    (clearKind k w).st.background = w.st.background := by
  simp [clearKind]

end flags

end Sys2Proof.Machine
end

