-- ==== Sys2Proof/Laws/FrameUnits.lean ====
section
/-! SUPPORT. The background through the functions of SI, DU, LU, ME's replies, BT, TU, SU, SC and TS. -/

namespace Sys2Proof.Machine

section intake

@[simp] theorem setMotion_background (m : Motion) (w : Work) :
    (w.setMotion m).st.background = w.st.background := by
  unfold Work.setMotion; split
  · rfl
  · simp [State.setSi_background]

@[simp] theorem judgeMotion_background (w : Work) : (judgeMotion w).st.background = w.st.background := by
  unfold judgeMotion; dsimp only
  split
  · simp [State.setSi_background]
  · split
    · simp [State.setSi_background]
    · split <;> simp [State.setSi_background]

@[simp] theorem recomputeVref_background (w : Work) : (recomputeVref w).st.background = w.st.background := by
  unfold recomputeVref; dsimp only
  split <;> simp [State.setSi_background]

theorem setInput_background (p : Pin) (r : InputRec) (w : Work) :
    (w.setInput p r).st.background = w.st.background := by
  cases p <;> simp [SampleIntake.setInput, State.setSi_background]

@[simp] theorem acceptLevel_background (p : Pin) (l : Level) (w : Work) :
    (acceptLevel p l w).st.background = w.st.background := by
  unfold acceptLevel; split
  · rfl
  · exact setInput_background _ _ _

@[simp] theorem applyFilter_background (p : Pin) (f : FilterSetting) (w : Work) :
    (applyFilter p f w).st.background = w.st.background := by
  unfold applyFilter; dsimp only
  split
  · exact setInput_background _ _ _
  · rw [acceptLevel_background]; exact setInput_background _ _ _

@[simp] theorem applyFilterChange_background (p : Pin) (f : FilterRec) (w : Work) :
    (applyFilterChange p f w).st.background = w.st.background := by
  unfold applyFilterChange
  split
  · rfl
  · dsimp only; split <;> split <;> simp

end intake

section demand

@[simp] theorem deriveEffect_background (w : Work) : (deriveEffect w).st.background = w.st.background := by
  unfold deriveEffect; split <;> simp [State.setDu_background]

@[simp] theorem judgeEmergency_background (w : Work) :
    (judgeEmergency w).st.background = w.st.background := by
  unfold judgeEmergency; dsimp only; split <;> simp [State.setDu_background]

@[simp] theorem deriveMode_background (w : Work) : (deriveMode w).st.background = w.st.background := by
  unfold deriveMode; dsimp only; split <;> simp [State.setDu_background]

end demand

section load

@[simp] theorem judgeLoadConditions_background (w : Work) :
    (judgeLoadConditions w).st.background = w.st.background := by
  simp [judgeLoadConditions]

@[simp] theorem handGroup_background (g : Fin 3) (n : Nat) (w : Work) :
    (handGroup g n w).st.background = w.st.background := by
  unfold handGroup; dsimp only; split <;> simp

@[simp] theorem computeGroup_background (g : Fin 3) (w : Work) :
    (computeGroup g w).st.background = w.st.background := by
  unfold computeGroup
  split
  · rfl
  · dsimp only; split <;> split <;> split <;> simp

@[simp] theorem bellowsHanded_background (g : Fin 3) (w : Work) :
    (bellowsHanded g w).st.background = w.st.background := by
  simp [bellowsHanded]

@[simp] theorem computeAll_background (w : Work) : (computeAll w).st.background = w.st.background := by
  simp [computeAll]

end load

section reply

theorem sourcePort_ne_rl (src : Source) : sourcePort src ≠ .rl := by cases src <;> decide

theorem offerAll_background {p : Port} (hp : p ≠ .rl) (ms : List QMsg) (w : Work) :
    (offerAll p ms w).st.background = w.st.background := by
  induction ms generalizing w with
  | nil => rfl
  | cons m ms ih => rw [offerAll, ih, offer_background hp]

@[simp] theorem replyWith_background (b : Bool) (src : Source) (code tag : Byte) (st : ReplyStatus)
    (rs : List Byte) (w : Work) : (replyWith b src code tag st rs w).st.background = w.st.background :=
  offerAll_background (sourcePort_ne_rl src) _ _

@[simp] theorem reply_background (src : Source) (code tag : Byte) (st : ReplyStatus)
    (rs : List Byte) (w : Work) : (reply src code tag st rs w).st.background = w.st.background :=
  replyWith_background _ _ _ _ _ _ _

@[simp] theorem answerSlot_background (st : ReplyStatus) (rs : List Byte) (w : Work) :
    (answerSlot st rs w).st.background = w.st.background := by
  unfold answerSlot; split <;> simp [State.setMe_background]

end reply

section brake

@[simp] theorem judgeFaultCondition_background (w : Work) :
    (judgeFaultCondition w).st.background = w.st.background := by
  simp [judgeFaultCondition]

@[simp] theorem judgeDeviation_background (c : Fin 6) (w : Work) :
    (judgeDeviation c w).st.background = w.st.background := by
  unfold judgeDeviation; dsimp only
  split
  · split
    · split <;> simp
    · simp
  · rfl

@[simp] theorem offerCommand_background (c : Fin 6) (w : Work) :
    (offerCommand c w).st.background = w.st.background := by
  unfold offerCommand; dsimp only
  split
  · split <;> simp
  · simp
  · simp

@[simp] theorem setTarget_background (c : Fin 6) (t : Nat) (w : Work) :
    (setTarget c t w).st.background = w.st.background := by
  unfold setTarget; dsimp only
  (repeat' split) <;> simp

@[simp] theorem recomputeChannel_background (c : Fin 6) (w : Work) :
    (recomputeChannel c w).st.background = w.st.background := by
  unfold recomputeChannel
  split
  · rfl
  · split
    · split <;> simp
    · simp

@[simp] theorem recomputeList_background (cs : List (Fin 6)) (w : Work) :
    (recomputeList cs w).st.background = w.st.background := by
  induction cs generalizing w with
  | nil => rfl
  | cons c cs ih => rw [recomputeList, ih, recomputeChannel_background]

@[simp] theorem recomputeAll_background (w : Work) : (recomputeAll w).st.background = w.st.background := by
  simp [recomputeAll]

@[simp] theorem recomputeGroup_background (g : Fin 3) (w : Work) :
    (recomputeGroup g w).st.background = w.st.background := by
  simp [recomputeGroup]

@[simp] theorem setFault_background (c : Fin 6) (f : Bool) (w : Work) :
    (setFault c f w).st.background = w.st.background := by
  unfold setFault; dsimp only; split <;> simp

@[simp] theorem setOverall_background (r : PathResult) (w : Work) :
    (setOverall r w).st.background = w.st.background := by
  unfold setOverall; split <;> simp

@[simp] theorem resetResults_background (w : Work) :
    (resetResults w).st.background = w.st.background := by
  simp [resetResults]

@[simp] theorem answerPathRequest_background (st : ReplyStatus) (rs : List Byte) (w : Work) :
    (answerPathRequest st rs w).st.background = w.st.background := by
  unfold answerPathRequest; split <;> simp

@[simp] theorem completeCheck_background (w : Work) :
    (completeCheck w).st.background = w.st.background := by
  unfold completeCheck; dsimp only; split <;> simp

@[simp] theorem beginAlong_background (cs : List (Fin 6)) (w : Work) :
    (beginAlong cs w).st.background = w.st.background := by
  induction cs with
  | nil => simp [beginAlong]
  | cons c cs ih => unfold beginAlong; split <;> simp [ih]

@[simp] theorem startCheck_background (w : Work) : (startCheck w).st.background = w.st.background := by
  simp [startCheck]

@[simp] theorem leaveTest_background (c : Fin 6) (r : PathResult) (w : Work) :
    (leaveTest c r w).st.background = w.st.background := by
  simp [leaveTest]

@[simp] theorem beginFall_background (c : Fin 6) (w : Work) :
    (beginFall c w).st.background = w.st.background := by
  simp [beginFall]

@[simp] theorem abortCheck_background (w : Work) : (abortCheck w).st.background = w.st.background := by
  unfold abortCheck; dsimp only; split <;> simp

@[simp] theorem judgeEligible_background (w : Work) :
    (judgeEligible w).st.background = w.st.background := by
  unfold judgeEligible
  split
  · split <;> simp
  · split <;> simp

@[simp] theorem brakeModeHanded_background (w : Work) :
    (brakeModeHanded w).st.background = w.st.background := by
  simp [brakeModeHanded]

@[simp] theorem feedbackHanded_background (c : Fin 6) (v : Nat) (w : Work) :
    (feedbackHanded c v w).st.background = w.st.background := by
  unfold feedbackHanded; dsimp only
  split
  · split
    · split <;> simp
    · split <;> simp
    · simp
  · simp

@[simp] theorem feedbackLost_background (c : Fin 6) (w : Work) :
    (feedbackLost c w).st.background = w.st.background := by
  simp [feedbackLost]

@[simp] theorem unconfigure_background (c : Fin 6) (w : Work) :
    (unconfigure c w).st.background = w.st.background := by
  unfold unconfigure; dsimp only
  split <;> split <;> simp

@[simp] theorem configure_background (c : Fin 6) (w : Work) :
    (configure c w).st.background = w.st.background := by
  simp [configure]

@[simp] theorem followConfigured_background (c : Fin 6) (w : Work) :
    (followConfigured c w).st.background = w.st.background := by
  unfold followConfigured; dsimp only
  split
  · rfl
  · split <;> simp

@[simp] theorem followAll_background (cs : List (Fin 6)) (w : Work) :
    (followAll cs w).st.background = w.st.background := by
  induction cs generalizing w with
  | nil => rfl
  | cons c cs ih => rw [followAll, ih, followConfigured_background]

@[simp] theorem passOver_background (w : Work) : (passOver w).st.background = w.st.background := by
  unfold passOver
  split
  · split <;> simp
  · rfl

@[simp] theorem followGroups_background (w : Work) : (followGroups w).st.background = w.st.background := by
  simp [followGroups]

end brake

section tyre

@[simp] theorem judgeTyreConditions_background (w : Work) :
    (judgeTyreConditions w).st.background = w.st.background := by
  simp [judgeTyreConditions]

@[simp] theorem raiseEntries_background (p : Fin 24) (old new : WheelRun) (w : Work) :
    (raiseEntries p old new w).st.background = w.st.background := by
  unfold raiseEntries; dsimp only
  split <;> split <;> (try split) <;> simp

@[simp] theorem judgeGroup_background (g : Fin 3) (w : Work) :
    (judgeGroup g w).st.background = w.st.background := by
  unfold judgeGroup; dsimp only; split <;> split <;> simp

@[simp] theorem judgeWorst_background (w : Work) : (judgeWorst w).st.background = w.st.background := by
  unfold judgeWorst; dsimp only; split <;> simp

@[simp] theorem judgeTyres_background (w : Work) : (judgeTyres w).st.background = w.st.background := by
  simp [judgeTyres]

@[simp] theorem wheelChanged_background (p : Fin 24) (old : WheelRun) (w : Work) :
    (wheelChanged p old w).st.background = w.st.background := by
  unfold wheelChanged; dsimp only; split <;> simp

@[simp] theorem restartWheel_background (p : Fin 24) (w : Work) :
    (restartWheel p w).st.background = w.st.background := by
  simp [restartWheel]

@[simp] theorem restartWheels_background (ps : List (Fin 24)) (w : Work) :
    (restartWheels ps w).st.background = w.st.background := by
  induction ps generalizing w with
  | nil => rfl
  | cons p ps ih => rw [restartWheels, ih, restartWheel_background]

@[simp] theorem acceptReport_background (p : Fin 24) (f : TyreFields) (w : Work) :
    (acceptReport p f w).st.background = w.st.background := by
  simp [acceptReport]

@[simp] theorem missingExpiry_background (p : Fin 24) (w : Work) :
    (missingExpiry p w).st.background = w.st.background := by
  simp [missingExpiry]

@[simp] theorem cancelLearn_background (w : Work) : (cancelLearn w).st.background = w.st.background := by
  unfold cancelLearn; split <;> simp

@[simp] theorem startLearn_background (p : Fin 24) (w : Work) :
    (startLearn p w).st.background = w.st.background := by
  simp [startLearn]

@[simp] theorem learnExpiry_background (w : Work) : (learnExpiry w).st.background = w.st.background := by
  unfold learnExpiry; dsimp only; split <;> simp

@[simp] theorem startTyres_background (w : Work) : (startTyres w).st.background = w.st.background := by
  simp [startTyres]

end tyre

section stability

@[simp] theorem stabToInactive_background (w : Work) :
    (stabToInactive w).st.background = w.st.background := by simp [stabToInactive]
@[simp] theorem stabToIntervening_background (w : Work) :
    (stabToIntervening w).st.background = w.st.background := by simp [stabToIntervening]
@[simp] theorem stabToReleasing_background (w : Work) :
    (stabToReleasing w).st.background = w.st.background := by simp [stabToReleasing]
@[simp] theorem stabToNormal_background (w : Work) :
    (stabToNormal w).st.background = w.st.background := by simp [stabToNormal]
@[simp] theorem stabToWatch_background (w : Work) :
    (stabToWatch w).st.background = w.st.background := by simp [stabToWatch]
@[simp] theorem endPulse_background (w : Work) :
    (endPulse w).st.background = w.st.background := by simp [endPulse]
@[simp] theorem startPulse_background (c : Fin 6) (w : Work) :
    (startPulse c w).st.background = w.st.background := by simp [startPulse]

@[simp] theorem choosePulse_background (b : Bool) (w : Work) :
    (choosePulse b w).1.st.background = w.st.background := by
  unfold choosePulse
  split
  · rfl
  · split
    · split <;> simp
    · split <;> simp

@[simp] theorem eventTransition_background (b : Bool) (e : SuEvent) (w : Work) :
    (eventTransition b e w).1.st.background = w.st.background := by
  unfold eventTransition; dsimp only
  split
  · split
    · simp
    · split <;> simp
  · split <;> simp
  · rfl
  · rfl
  · rfl
  · rfl

@[simp] theorem marginTransition_background (b : Bool) (w : Work) :
    (marginTransition b w).1.st.background = w.st.background := by
  unfold marginTransition; dsimp only
  split
  · rfl
  · split
    · simp
    · split <;> simp
  · split
    · simp
    · split
      · simp
      · split <;> simp
  · split <;> simp
  · split <;> simp
  · split <;> simp

@[simp] theorem marginTransitions_background (b : Bool) (n : Nat) (w : Work) :
    (marginTransitions b n w).1.st.background = w.st.background := by
  induction n generalizing w with
  | zero => rfl
  | succ n ih => unfold marginTransitions; dsimp only; split <;> simp [ih]

@[simp] theorem judgeActivation_background (w : Work) :
    (judgeActivation w).st.background = w.st.background := by
  unfold judgeActivation; dsimp only
  split <;> split <;> (try split) <;> simp

@[simp] theorem judgeInactiveFault_background (w : Work) :
    (judgeInactiveFault w).st.background = w.st.background := by
  unfold judgeInactiveFault; dsimp only; split <;> simp

@[simp] theorem endRelease_background (b : Bool) (w : Work) :
    (endRelease b w).st.background = w.st.background := by
  unfold endRelease; dsimp only
  rw [marginTransitions_background]
  split
  · simp
  · split <;> simp

@[simp] theorem rampStep_background (b : Bool) (e : SuEvent) (w : Work) :
    (rampStep b e w).st.background = w.st.background := by
  unfold rampStep; dsimp only
  split
  · simp
  · split <;> simp
  · split <;> simp
  · rfl

@[simp] theorem deriveDemands_background (w : Work) :
    (deriveDemands w).st.background = w.st.background := by
  simp [deriveDemands]

@[simp] theorem handStab_background (u : StabUnit) (w : Work) :
    (handStab u w).st.background = w.st.background := by
  unfold handStab; dsimp only
  split <;> split <;> split <;> simp

@[simp] theorem stabEvent_background (b : Bool) (e : SuEvent) (w : Work) :
    (stabEvent b e w).st.background = w.st.background := by
  unfold stabEvent; dsimp only
  split
  · rfl
  · split <;> simp

end stability

section status

@[simp] theorem offerStatus_background (b : Bool) (w : Work) :
    (offerStatus b w).st.background = w.st.background := by
  unfold offerStatus; dsimp only
  split <;> simp [State.setSc_background]

@[simp] theorem judgeNews_background (w : Work) : (judgeNews w).st.background = w.st.background := by
  unfold judgeNews
  split
  · rfl
  · split <;> simp [State.setSc_background]

@[simp] theorem liveHanded_background (f : Fin 12) (v : Nat) (w : Work) :
    (liveHanded f v w).st.background = w.st.background := by
  simp [liveHanded, State.setSc_background]

@[simp] theorem targetHanded_background (c : Fin 6) (t : Nat) (w : Work) :
    (targetHanded c t w).st.background = w.st.background := by
  simp [targetHanded, State.setSc_background]

@[simp] theorem loadHanded_background (g : Fin 3) (l : Option Nat) (q : LoadQuality) (w : Work) :
    (loadHanded g l q w).st.background = w.st.background := by
  unfold loadHanded
  split
  · rfl
  · simp [State.setSc_background]

@[simp] theorem fractionHanded_background (f : Nat) (w : Work) :
    (fractionHanded f w).st.background = w.st.background := by
  simp [fractionHanded, State.setSc_background]

@[simp] theorem startSending_background (w : Work) :
    (startSending w).st.background = w.st.background := by
  simp [startSending, State.setSc_background]

@[simp] theorem minStatusExpiry_background (w : Work) :
    (minStatusExpiry w).st.background = w.st.background := by
  unfold minStatusExpiry; split <;> simp [State.setSc_background]

@[simp] theorem periodicExpiry_background (w : Work) :
    (periodicExpiry w).st.background = w.st.background := by
  unfold periodicExpiry; split <;> simp [State.setSc_background]

@[simp] theorem followPeriodic_background (n : Nat) (w : Work) :
    (followPeriodic n w).st.background = w.st.background := by
  unfold followPeriodic; dsimp only; split <;> simp [State.setSc_background]

@[simp] theorem sourcesLive_background (w : Work) : (sourcesLive w).st.background = w.st.background := by
  simp [sourcesLive, State.setSc_background]

end status

section store

@[simp] theorem judgeTableCheck_background (w : Work) :
    (judgeTableCheck w).st.background = w.st.background := by
  unfold judgeTableCheck; dsimp only
  (repeat' split) <;> simp [State.setTs_background]

@[simp] theorem sectionChanged_background (s : State) (x : Sect) (w : Work) :
    (sectionChanged s x w).st.background = w.st.background := by
  cases x <;> simp [sectionChanged]

@[simp] theorem handSections_background (s : State) (xs : List Sect) (w : Work) :
    (handSections s xs w).st.background = w.st.background := by
  induction xs generalizing w with
  | nil => rfl
  | cons x xs ih => rw [handSections, ih]; split <;> simp

@[simp] theorem changeValidity_background (new : Bank Bool 7) (w : Work) :
    (changeValidity new w).st.background = w.st.background := by
  simp [changeValidity, State.setTs_background]

@[simp] theorem setOpState_background (o : OpState) (w : Work) :
    (setOpState o w).st.background = w.st.background := by
  unfold setOpState; dsimp only
  split <;> simp [State.setMe_background]

@[simp] theorem forceExit_background (w : Work) : (forceExit w).st.background = w.st.background := by
  simp [forceExit]

@[simp] theorem motionHanded_background (w : Work) :
    (motionHanded w).st.background = w.st.background := by
  unfold motionHanded; split <;> simp

@[simp] theorem parkHanded_background (w : Work) : (parkHanded w).st.background = w.st.background := by
  unfold parkHanded; split <;> simp

end store

/-- No hand-off changes the background, whichever it is. -/
@[simp] theorem handle_background (b : Bool) (h : HandOff) (w : Work) :
    (handle b h w).st.background = w.st.background := by
  cases h <;> simp [handle, controlLineHanded, supplyHanded, State.setSi_background]

/-- The hand-offs of an event leave the background as the event's own work made it. -/
@[simp] theorem settle_background (n : Nat) (b : Bool) (w : Work) :
    (settle n b w).st.background = w.st.background := by
  induction n generalizing b w with
  | zero => rfl
  | succ n ih =>
    unfold settle
    split
    · rfl
    · dsimp only; rw [ih, handle_background]

end Sys2Proof.Machine
end

