-- ==== Sys2Proof/Laws/Queue.lean ====
section
/-! SUPPORT. What a failed transmission attempt leaves of a queue. -/

namespace Sys2Proof.Machine

/-- A queue with nothing in transmission is left as it stands. -/
@[simp] theorem attemptFailed_waiting {q : List QMsg} (h : ∀ m ∈ q, m.sending = false) : attemptFailed q = q := by
  induction q with
  | nil => rfl
  | cons x xs ih =>
    have hx : x.sending = false := h x (by simp)
    rw [attemptFailed, hx, ih fun m hm => h m (by simp [hm])]
    simp [← hx]

/-- With one message in transmission: it is removed when a newer waiting one is of its class, and returns
to waiting in its place otherwise (R19). -/
theorem attemptFailed_one {a z : List QMsg} {x : QMsg} (h : ∀ m ∈ a ++ z, m.sending = false)
    (hx : x.sending = true) :
    attemptFailed (a ++ x :: z)
      = if supersededBy z x then a ++ z else a ++ { x with sending := false } :: z := by
  induction a with
  | nil =>
    have hz : attemptFailed z = z := attemptFailed_waiting fun m hm => h m (by simp [hm])
    simp only [List.nil_append, attemptFailed, hx, hz, Bool.true_and]
  | cons y a ih =>
    have hy : y.sending = false := h y (by simp)
    rw [List.cons_append, attemptFailed, ih fun m hm => h m (by
      rcases List.mem_append.mp hm with hm | hm <;> simp [hm])]
    simp only [hy, Bool.false_and, Bool.false_eq_true, if_false, List.cons_append]
    rw [show ({ y with sending := false } : QMsg) = y by simp [← hy]]
    split <;> rfl

end Sys2Proof.Machine
end

