-- ==== Sys2Proof/Laws/Steady.lean ====
section
/-! SUPPORT. What the hand-offs of an event leave besides the background, as long as none of them forces
an exit from maintenance: the operating state, TU, TS, the inputs, the enables and the field sources. -/

namespace Sys2Proof.Machine

/-- Both enables in force of each kind (R152). -/
def NoticeUnit.enables (nu : NoticeUnit) : Bank (Bool × Bool) 24 := nu.records.map fun r => (r.message, r.lamp)

/-- What only a forced exit could change inside an event's hand-offs. -/
structure SteadyPart where
  op : OpState
  overridden : Bank Bool 12
  tu : TyreUnit
  ts : StoreUnit
  supply : InputRec
  park : InputRec
  enables : Bank (Bool × Bool) 24
  mode : SnapMode
  maskIntervention : Bool
  maskEmergency : Bool
  maskDemandLost : Bool

/-- The steady part of a state. -/
def State.steadyPart (s : State) : SteadyPart :=
  { op := s.me.op, overridden := s.sc.overridden, tu := s.tu, ts := s.ts, supply := s.si.supply,
    park := s.si.park, enables := s.nu.enables, mode := s.nu.mode,
    maskIntervention := s.nu.maskIntervention, maskEmergency := s.nu.maskEmergency,
    maskDemandLost := s.nu.maskDemandLost }

/-- The steady part with SI, which the functions of the other units leave whole. -/
def State.steady (s : State) : SteadyPart × SampleIntake := (s.steadyPart, s.si)

section updates
variable (s : State)

@[simp] theorem State.setLr_steady (x : LinkRouter) : (s.setLr x).steady = s.steady := rfl
@[simp] theorem State.setLu_steady (x : Bank GroupRun 3) : (s.setLu x).steady = s.steady := rfl
@[simp] theorem State.setBt_steady (x : BrakeUnit) : (s.setBt x).steady = s.steady := rfl
@[simp] theorem State.setSu_steady (x : StabUnit) : (s.setSu x).steady = s.steady := rfl
@[simp] theorem State.setDu_steady (x : DemandUnit) : (s.setDu x).steady = s.steady := rfl

theorem State.setSc_steady {x : StatusUnit} (h : x.overridden = s.sc.overridden) :
    (s.setSc x).steady = s.steady := by
  simp [State.steady, State.steadyPart, h]

theorem State.setMe_steady {x : ManageUnit} (h : x.op = s.me.op) : (s.setMe x).steady = s.steady := by
  simp [State.steady, State.steadyPart, h]

theorem State.setNu_steady {x : NoticeUnit} (h1 : x.enables = s.nu.enables) (h2 : x.mode = s.nu.mode)
    (h3 : x.maskIntervention = s.nu.maskIntervention) (h4 : x.maskEmergency = s.nu.maskEmergency)
    (h5 : x.maskDemandLost = s.nu.maskDemandLost) : (s.setNu x).steady = s.steady := by
  simp [State.steady, State.steadyPart, h1, h2, h3, h4, h5]

/-- A record replaced by one with the same enables. -/
theorem NoticeUnit.enables_setRec (nu : NoticeUnit) (k : NoticeKind) {r : NoticeRec}
    (h1 : r.message = (nu.notice k).message) (h2 : r.lamp = (nu.notice k).lamp) :
    (nu.setRec k r).enables = nu.enables := by
  apply Bank.ext_read
  intro i
  simp only [NoticeUnit.enables, NoticeUnit.setRec, Bank.read_map, Bank.read_write]
  split
  · next h => subst h; rw [h1, h2]; rfl
  · rfl

end updates

@[simp] theorem pushMsg_steady (s : State) (p : Port) (m : QMsg) :
    (pushMsg s p m).1.steady = s.steady := by
  unfold pushMsg; dsimp only; split <;> simp [State.setPort]

@[simp] theorem setRec_occur_steady (w : Work) (k : NoticeKind) (st : Stamp) :
    (w.st.setNu (w.st.nu.setRec k ((w.st.nu.notice k).occur st))).steady = w.st.steady :=
  State.setNu_steady _ (NoticeUnit.enables_setRec _ _ rfl rfl) rfl rfl rfl rfl

section flags

@[simp] theorem judgeLamp_steady (w : Work) : (judgeLamp w).st.steady = w.st.steady := by
  unfold judgeLamp; split
  · rfl
  · exact State.setNu_steady _ rfl rfl rfl rfl rfl

@[simp] theorem judgeClasses_steady (n : Nat) (w : Work) :
    (judgeClasses n w).st.steady = w.st.steady := by
  unfold judgeClasses; split <;> simp

@[simp] theorem setPresent_steady (k : NoticeKind) (b : Bool) (w : Work) :
    (setPresent k b w).st.steady = w.st.steady := by
  unfold setPresent; split
  · rfl
  · exact State.setNu_steady _ (NoticeUnit.enables_setRec _ _ rfl rfl) rfl rfl rfl rfl

@[simp] theorem takeTrigger_steady (k : NoticeKind) (w : Work) :
    (takeTrigger k w).st.steady = w.st.steady := by
  unfold takeTrigger; split
  · rfl
  · exact State.setNu_steady _ rfl rfl rfl rfl rfl

@[simp] theorem recordOccurrence_steady (k : NoticeKind) (d : Half) (w : Work) :
    (recordOccurrence k d w).st.steady = w.st.steady := by
  simp [recordOccurrence]

@[simp] theorem raiseUpTo_steady (n : Nat) (k : NoticeKind) (d : Half) (w : Work) :
    (raiseUpTo n k d w).st.steady = w.st.steady := by
  induction n generalizing k d w with
  | zero => simp [raiseUpTo]
  | succ n ih =>
    unfold raiseUpTo
    dsimp only
    split
    · simp
    · split
      · rw [ih]; simp
      · simp

@[simp] theorem raise_steady (k : NoticeKind) (d : Half) (w : Work) :
    (raise k d w).st.steady = w.st.steady := raiseUpTo_steady 3 k d w

@[simp] theorem offer_steady (p : Port) (m : QMsg) (w : Work) :
    (offer p m w).1.st.steady = w.st.steady := by
  unfold offer
  dsimp only
  split <;> simp

end flags


section demand

@[simp] theorem deriveEffect_steady (w : Work) : (deriveEffect w).st.steady = w.st.steady := by
  unfold deriveEffect; split <;> simp [State.setDu_steady]

@[simp] theorem judgeEmergency_steady (w : Work) :
    (judgeEmergency w).st.steady = w.st.steady := by
  unfold judgeEmergency; dsimp only; split <;> simp [State.setDu_steady]

@[simp] theorem deriveMode_steady (w : Work) : (deriveMode w).st.steady = w.st.steady := by
  unfold deriveMode; dsimp only; split <;> simp [State.setDu_steady]

end demand

section load

@[simp] theorem judgeLoadConditions_steady (w : Work) :
    (judgeLoadConditions w).st.steady = w.st.steady := by
  simp [judgeLoadConditions]

@[simp] theorem handGroup_steady (g : Fin 3) (n : Nat) (w : Work) :
    (handGroup g n w).st.steady = w.st.steady := by
  unfold handGroup; dsimp only; split <;> simp

@[simp] theorem computeGroup_steady (g : Fin 3) (w : Work) :
    (computeGroup g w).st.steady = w.st.steady := by
  unfold computeGroup
  split
  · rfl
  · dsimp only; split <;> split <;> split <;> simp

@[simp] theorem bellowsHanded_steady (g : Fin 3) (w : Work) :
    (bellowsHanded g w).st.steady = w.st.steady := by
  simp [bellowsHanded]

@[simp] theorem computeAll_steady (w : Work) : (computeAll w).st.steady = w.st.steady := by
  simp [computeAll]

end load

section reply


theorem offerAll_steady (p : Port) (ms : List QMsg) (w : Work) :
    (offerAll p ms w).st.steady = w.st.steady := by
  induction ms generalizing w with
  | nil => rfl
  | cons m ms ih => rw [offerAll, ih, offer_steady]

@[simp] theorem replyWith_steady (b : Bool) (src : Source) (code tag : Byte) (st : ReplyStatus)
    (rs : List Byte) (w : Work) : (replyWith b src code tag st rs w).st.steady = w.st.steady :=
  offerAll_steady _ _ _

@[simp] theorem reply_steady (src : Source) (code tag : Byte) (st : ReplyStatus)
    (rs : List Byte) (w : Work) : (reply src code tag st rs w).st.steady = w.st.steady :=
  replyWith_steady _ _ _ _ _ _ _

@[simp] theorem answerSlot_steady (st : ReplyStatus) (rs : List Byte) (w : Work) :
    (answerSlot st rs w).st.steady = w.st.steady := by
  unfold answerSlot; split <;> simp [State.setMe_steady]

end reply

section brake

@[simp] theorem judgeFaultCondition_steady (w : Work) :
    (judgeFaultCondition w).st.steady = w.st.steady := by
  simp [judgeFaultCondition]

@[simp] theorem judgeDeviation_steady (c : Fin 6) (w : Work) :
    (judgeDeviation c w).st.steady = w.st.steady := by
  unfold judgeDeviation; dsimp only
  split
  · split
    · split <;> simp
    · simp
  · rfl

@[simp] theorem offerCommand_steady (c : Fin 6) (w : Work) :
    (offerCommand c w).st.steady = w.st.steady := by
  unfold offerCommand; dsimp only
  split
  · split <;> simp
  · simp
  · simp

@[simp] theorem setTarget_steady (c : Fin 6) (t : Nat) (w : Work) :
    (setTarget c t w).st.steady = w.st.steady := by
  unfold setTarget; dsimp only
  (repeat' split) <;> simp

@[simp] theorem recomputeChannel_steady (c : Fin 6) (w : Work) :
    (recomputeChannel c w).st.steady = w.st.steady := by
  unfold recomputeChannel
  split
  · rfl
  · split
    · split <;> simp
    · simp

@[simp] theorem recomputeList_steady (cs : List (Fin 6)) (w : Work) :
    (recomputeList cs w).st.steady = w.st.steady := by
  induction cs generalizing w with
  | nil => rfl
  | cons c cs ih => rw [recomputeList, ih, recomputeChannel_steady]

@[simp] theorem recomputeAll_steady (w : Work) : (recomputeAll w).st.steady = w.st.steady := by
  simp [recomputeAll]

@[simp] theorem recomputeGroup_steady (g : Fin 3) (w : Work) :
    (recomputeGroup g w).st.steady = w.st.steady := by
  simp [recomputeGroup]

@[simp] theorem setFault_steady (c : Fin 6) (f : Bool) (w : Work) :
    (setFault c f w).st.steady = w.st.steady := by
  unfold setFault; dsimp only; split <;> simp

@[simp] theorem setOverall_steady (r : PathResult) (w : Work) :
    (setOverall r w).st.steady = w.st.steady := by
  unfold setOverall; split <;> simp

@[simp] theorem resetResults_steady (w : Work) :
    (resetResults w).st.steady = w.st.steady := by
  simp [resetResults]

@[simp] theorem answerPathRequest_steady (st : ReplyStatus) (rs : List Byte) (w : Work) :
    (answerPathRequest st rs w).st.steady = w.st.steady := by
  unfold answerPathRequest; split <;> simp

@[simp] theorem completeCheck_steady (w : Work) :
    (completeCheck w).st.steady = w.st.steady := by
  unfold completeCheck; dsimp only; split <;> simp

@[simp] theorem beginAlong_steady (cs : List (Fin 6)) (w : Work) :
    (beginAlong cs w).st.steady = w.st.steady := by
  induction cs with
  | nil => simp [beginAlong]
  | cons c cs ih => unfold beginAlong; split <;> simp [ih]

@[simp] theorem startCheck_steady (w : Work) : (startCheck w).st.steady = w.st.steady := by
  simp [startCheck]

@[simp] theorem leaveTest_steady (c : Fin 6) (r : PathResult) (w : Work) :
    (leaveTest c r w).st.steady = w.st.steady := by
  simp [leaveTest]

@[simp] theorem beginFall_steady (c : Fin 6) (w : Work) :
    (beginFall c w).st.steady = w.st.steady := by
  simp [beginFall]

@[simp] theorem abortCheck_steady (w : Work) : (abortCheck w).st.steady = w.st.steady := by
  unfold abortCheck; dsimp only; split <;> simp

@[simp] theorem judgeEligible_steady (w : Work) :
    (judgeEligible w).st.steady = w.st.steady := by
  unfold judgeEligible
  split
  · split <;> simp
  · split <;> simp

@[simp] theorem brakeModeHanded_steady (w : Work) :
    (brakeModeHanded w).st.steady = w.st.steady := by
  simp [brakeModeHanded]

@[simp] theorem feedbackHanded_steady (c : Fin 6) (v : Nat) (w : Work) :
    (feedbackHanded c v w).st.steady = w.st.steady := by
  unfold feedbackHanded; dsimp only
  split
  · split
    · split <;> simp
    · split <;> simp
    · simp
  · simp

@[simp] theorem feedbackLost_steady (c : Fin 6) (w : Work) :
    (feedbackLost c w).st.steady = w.st.steady := by
  simp [feedbackLost]

@[simp] theorem unconfigure_steady (c : Fin 6) (w : Work) :
    (unconfigure c w).st.steady = w.st.steady := by
  unfold unconfigure; dsimp only
  split <;> split <;> simp

@[simp] theorem configure_steady (c : Fin 6) (w : Work) :
    (configure c w).st.steady = w.st.steady := by
  simp [configure]

@[simp] theorem followConfigured_steady (c : Fin 6) (w : Work) :
    (followConfigured c w).st.steady = w.st.steady := by
  unfold followConfigured; dsimp only
  split
  · rfl
  · split <;> simp

@[simp] theorem followAll_steady (cs : List (Fin 6)) (w : Work) :
    (followAll cs w).st.steady = w.st.steady := by
  induction cs generalizing w with
  | nil => rfl
  | cons c cs ih => rw [followAll, ih, followConfigured_steady]

@[simp] theorem passOver_steady (w : Work) : (passOver w).st.steady = w.st.steady := by
  unfold passOver
  split
  · split <;> simp
  · rfl

@[simp] theorem followGroups_steady (w : Work) : (followGroups w).st.steady = w.st.steady := by
  simp [followGroups]

end brake

section stability

@[simp] theorem stabToInactive_steady (w : Work) :
    (stabToInactive w).st.steady = w.st.steady := by simp [stabToInactive]
@[simp] theorem stabToIntervening_steady (w : Work) :
    (stabToIntervening w).st.steady = w.st.steady := by simp [stabToIntervening]
@[simp] theorem stabToReleasing_steady (w : Work) :
    (stabToReleasing w).st.steady = w.st.steady := by simp [stabToReleasing]
@[simp] theorem stabToNormal_steady (w : Work) :
    (stabToNormal w).st.steady = w.st.steady := by simp [stabToNormal]
@[simp] theorem stabToWatch_steady (w : Work) :
    (stabToWatch w).st.steady = w.st.steady := by simp [stabToWatch]
@[simp] theorem endPulse_steady (w : Work) :
    (endPulse w).st.steady = w.st.steady := by simp [endPulse]
@[simp] theorem startPulse_steady (c : Fin 6) (w : Work) :
    (startPulse c w).st.steady = w.st.steady := by simp [startPulse]

@[simp] theorem choosePulse_steady (b : Bool) (w : Work) :
    (choosePulse b w).1.st.steady = w.st.steady := by
  unfold choosePulse
  split
  · rfl
  · split
    · split <;> simp
    · split <;> simp

@[simp] theorem eventTransition_steady (b : Bool) (e : SuEvent) (w : Work) :
    (eventTransition b e w).1.st.steady = w.st.steady := by
  unfold eventTransition; dsimp only
  split
  · split
    · simp
    · split <;> simp
  · split <;> simp
  · rfl
  · rfl
  · rfl
  · rfl

@[simp] theorem marginTransition_steady (b : Bool) (w : Work) :
    (marginTransition b w).1.st.steady = w.st.steady := by
  unfold marginTransition; dsimp only
  split
  · rfl
  · split
    · simp
    · split <;> simp
  · split
    · simp
    · split
      · simp
      · split <;> simp
  · split <;> simp
  · split <;> simp
  · split <;> simp

@[simp] theorem marginTransitions_steady (b : Bool) (n : Nat) (w : Work) :
    (marginTransitions b n w).1.st.steady = w.st.steady := by
  induction n generalizing w with
  | zero => rfl
  | succ n ih => unfold marginTransitions; dsimp only; split <;> simp [ih]

@[simp] theorem judgeActivation_steady (w : Work) :
    (judgeActivation w).st.steady = w.st.steady := by
  unfold judgeActivation; dsimp only
  split <;> split <;> (try split) <;> simp

@[simp] theorem judgeInactiveFault_steady (w : Work) :
    (judgeInactiveFault w).st.steady = w.st.steady := by
  unfold judgeInactiveFault; dsimp only; split <;> simp

@[simp] theorem endRelease_steady (b : Bool) (w : Work) :
    (endRelease b w).st.steady = w.st.steady := by
  unfold endRelease; dsimp only
  rw [marginTransitions_steady]
  split
  · simp
  · split <;> simp

@[simp] theorem rampStep_steady (b : Bool) (e : SuEvent) (w : Work) :
    (rampStep b e w).st.steady = w.st.steady := by
  unfold rampStep; dsimp only
  split
  · simp
  · split <;> simp
  · split <;> simp
  · rfl

@[simp] theorem deriveDemands_steady (w : Work) :
    (deriveDemands w).st.steady = w.st.steady := by
  simp [deriveDemands]

@[simp] theorem handStab_steady (u : StabUnit) (w : Work) :
    (handStab u w).st.steady = w.st.steady := by
  unfold handStab; dsimp only
  split <;> split <;> split <;> simp

@[simp] theorem stabEvent_steady (b : Bool) (e : SuEvent) (w : Work) :
    (stabEvent b e w).st.steady = w.st.steady := by
  unfold stabEvent; dsimp only
  split
  · rfl
  · split <;> simp

end stability

section status

@[simp] theorem offerStatus_steady (b : Bool) (w : Work) :
    (offerStatus b w).st.steady = w.st.steady := by
  unfold offerStatus; dsimp only
  split <;> simp [State.setSc_steady]

@[simp] theorem judgeNews_steady (w : Work) : (judgeNews w).st.steady = w.st.steady := by
  unfold judgeNews
  split
  · rfl
  · split <;> simp [State.setSc_steady]

@[simp] theorem liveHanded_steady (f : Fin 12) (v : Nat) (w : Work) :
    (liveHanded f v w).st.steady = w.st.steady := by
  simp [liveHanded, State.setSc_steady]

@[simp] theorem targetHanded_steady (c : Fin 6) (t : Nat) (w : Work) :
    (targetHanded c t w).st.steady = w.st.steady := by
  simp [targetHanded, State.setSc_steady]

@[simp] theorem loadHanded_steady (g : Fin 3) (l : Option Nat) (q : LoadQuality) (w : Work) :
    (loadHanded g l q w).st.steady = w.st.steady := by
  unfold loadHanded
  split
  · rfl
  · simp [State.setSc_steady]

@[simp] theorem fractionHanded_steady (f : Nat) (w : Work) :
    (fractionHanded f w).st.steady = w.st.steady := by
  simp [fractionHanded, State.setSc_steady]

@[simp] theorem startSending_steady (w : Work) :
    (startSending w).st.steady = w.st.steady := by
  simp [startSending, State.setSc_steady]

end status


section vref

theorem State.setSi_steadyPart (s : State) {x : SampleIntake} (h1 : x.supply = s.si.supply)
    (h2 : x.park = s.si.park) : (s.setSi x).steadyPart = s.steadyPart := by
  simp [State.steadyPart, h1, h2]

@[simp] theorem setMotion_steadyPart (m : Motion) (w : Work) :
    (w.setMotion m).st.steadyPart = w.st.steadyPart := by
  unfold Work.setMotion; split <;> rfl

@[simp] theorem judgeMotion_steadyPart (w : Work) : (judgeMotion w).st.steadyPart = w.st.steadyPart := by
  unfold judgeMotion; dsimp only
  (repeat' split) <;> simp [State.setSi_steadyPart]

@[simp] theorem recomputeVref_steadyPart (w : Work) :
    (recomputeVref w).st.steadyPart = w.st.steadyPart := by
  unfold recomputeVref; dsimp only
  split <;> simp [State.setSi_steadyPart]

/-- While the believed speeds are slow, a recomputation of v_ref keeps the motion state. -/
theorem recomputeVref_motion {w : Work} (h : w.st.slow) : (recomputeVref w).st.si.motion = w.st.si.motion := by
  have hv : w.st.vrefNow.1 < Config.movingSpeed := by
    unfold State.vrefNow
    dsimp only
    split
    · next v hm =>
      have := List.max?_mem hm
      simp only [List.mem_map, List.mem_filter] at this
      obtain ⟨c, ⟨-, hc⟩, rfl⟩ := this
      simp only [Bool.and_eq_true, beq_iff_eq] at hc
      exact h.1 c hc.1
    · split
      · next hl => exact h.2 hl
      · decide
  have key : ∀ x : Work, x.st.si.vref < Config.movingSpeed → (judgeMotion x).st.si.motion = x.st.si.motion := by
    intro x hx
    unfold judgeMotion
    dsimp only
    rw [if_neg (by omega)]
    (repeat' split) <;> rfl
  unfold recomputeVref
  dsimp only
  split
  · rw [key _ (by simpa using hv)]; rfl
  · rw [key _ (by simpa using hv)]; rfl

end vref

/-- A steady state stays slow, and PARK stays active. -/
theorem State.slow_of_background {s t : State} (h : t.background = s.background) (hs : s.slow) : t.slow := by
  have h1 : t.si.records = s.si.records := congrArg Background.records h
  have h2 : t.du.link = s.du.link := congrArg Background.link h
  have h3 : t.du.lastSpeed = s.du.lastSpeed := congrArg Background.lastSpeed h
  simpa [State.slow, State.record, SampleIntake.channel, h1, h2, h3] using hs

theorem State.active_of_steady {s t : State} (h : t.background = s.background)
    (hp : t.steadyPart = s.steadyPart) (p : Pin) : t.active p = s.active p := by
  have h1 : t.tables = s.tables := congrArg Background.tables h
  have h2 : t.ts = s.ts := congrArg SteadyPart.ts hp
  have h3 : t.si.supply = s.si.supply := congrArg SteadyPart.supply hp
  have h4 : t.si.park = s.si.park := congrArg SteadyPart.park hp
  have hf : t.filterOf p = s.filterOf p := by
    unfold State.filterOf State.filtersInForce State.valid
    rw [h1, h2]
  have hi : t.input p = s.input p := by
    cases p
    · exact h3
    · exact h4
  unfold State.active
  rw [hf, hi]

/-- A hand-off in a calm state changes neither the steady part nor that calm. -/
theorem handle_steadyPart (b : Bool) (h : HandOff) {w : Work} (hc : w.st.calm) :
    (handle b h w).st.steadyPart = w.st.steadyPart
      ∧ (w.st.slow → (handle b h w).st.si.motion = w.st.si.motion) := by
  have whole : ∀ x : Work, x.st.steady = w.st.steady →
      x.st.steadyPart = w.st.steadyPart ∧ (w.st.slow → x.st.si.motion = w.st.si.motion) := fun x hx =>
    ⟨congrArg Prod.fst hx, fun _ => congrArg (fun y => SampleIntake.motion (Prod.snd y)) hx⟩
  cases h with
  | siTestChannel =>
    refine ⟨by simp [handle, State.setSi_steadyPart], fun hs => ?_⟩
    simp only [handle]
    rw [recomputeVref_motion]
    · rfl
    · exact State.slow_of_background (by simp [State.setSi_background]) hs
  | meMotion =>
    simp only [handle, motionHanded]
    rw [if_neg]
    · exact ⟨rfl, fun _ => rfl⟩
    · rcases hc with h | h
      · exact fun ⟨h1, _⟩ => h h1
      · exact fun ⟨_, h2⟩ => h.2.1 h2
  | mePark =>
    simp only [handle, parkHanded]
    rw [if_neg]
    · exact ⟨rfl, fun _ => rfl⟩
    · rcases hc with h | h
      · exact fun ⟨h1, _⟩ => h h1
      · exact fun ⟨_, h2⟩ => by simp [h.2.2] at h2
  | _ => exact whole _ (by simp [handle, controlLineHanded, supplyHanded])

/-- A hand-off in a calm state leaves it calm. -/
theorem handle_calm (b : Bool) (h : HandOff) {w : Work} (hc : w.st.calm) : (handle b h w).st.calm := by
  have hs := handle_steadyPart b h hc
  have hop : (handle b h w).st.me.op = w.st.me.op := congrArg SteadyPart.op hs.1
  rcases hc with h1 | h1
  · exact .inl (hop ▸ h1)
  · refine .inr ⟨State.slow_of_background (handle_background b h w) h1.1, ?_, ?_⟩
    · rw [hs.2 h1.1]; exact h1.2.1
    · rw [State.active_of_steady (handle_background b h w) hs.1]; exact h1.2.2

/-- In a calm state the hand-offs of an event leave the steady part, and the motion state while no believed
speed reaches that of MOVING. -/
theorem settle_steadyPart (n : Nat) (b : Bool) {w : Work} (hc : w.st.calm) :
    (settle n b w).st.steadyPart = w.st.steadyPart
      ∧ (w.st.slow → (settle n b w).st.si.motion = w.st.si.motion) := by
  induction n generalizing b w with
  | zero => exact ⟨rfl, fun _ => rfl⟩
  | succ n ih =>
    unfold settle
    split
    · exact ⟨rfl, fun _ => rfl⟩
    · next h rest hw =>
      dsimp only
      have hc' : ({ w with todo := rest } : Work).st.calm := hc
      have h1 := handle_steadyPart b h hc'
      have h2 := ih (b && !pulseStarted w.st (handle b h { w with todo := rest }).st) (handle_calm b h hc')
      refine ⟨h2.1.trans h1.1, fun hs => ?_⟩
      rw [h2.2 (State.slow_of_background (handle_background b h _) hs), h1.2 hs]

end Sys2Proof.Machine
end

