-- ==== Sys2Proof/WellFormed.lean ====
section
/-! DEFINITION. Which commands are well formed: what a CAN frame and a management group can carry at
all. Every other range of the spec is judged by the part itself, so it is no matter of form. -/

namespace Sys2Proof

/-- A CAN frame carries at most eight data bytes. -/
def dataFits (data : List Byte) : Bool := data.length ≤ 8

/-- An 11-bit identifier is below 2^11. -/
def BusFrame.wf (f : BusFrame) : Bool :=
  dataFits f.data && (f.form != .standard || f.ident.toNat < 2048)

/-- An item number is a 12-bit number in two bytes (R177, R199). -/
def itemFits (item : Half) : Bool := item.toNat < 4096

/-- A WRITE ENTRY of a point list fits a group of 64 bytes (R173): count, code, tag, table, index, point
count and CRC leave room for fourteen points of four bytes. -/
def pointsFit (points : List (Half × Half)) : Bool := points.length ≤ 14

/-- Well-formedness of a command. -/
def Instr.wf : Instr → Bool
  | .frameReceived _ f => f.wf
  | .demand _ d | .statusFromRear _ d | .speedSample _ d | .bellowsSample _ d | .motionSample _ d
  | .airSample _ d | .feedbackSample _ d | .tyreReport _ d | .manageRequestSegment _ _ d => dataFits d
  | .readItem _ _ item _ | .writeItem _ _ item _ _ | .swapItem _ _ item _ _ _ => itemFits item
  | .writeEntryCurve _ _ _ p | .writeEntryCritical _ _ _ p => pointsFit p
  | .powerOn | .endOfStart _ _ | .busOff _ | .portOn _ => true
  | .writeRouteUsedFlagItem _ _ _ _ | .writeGroupsParameter _ _ _ _ _ | .writeStabilityParameter _ _ _ _ _
  | .writeTyreSetting _ _ _ _ _ | .writeFilterSetting _ _ _ _ _ | .writeStatusInterval _ _ _ _ _
  | .writeRearMatchSetting _ _ _ _ _ | .writeNoticeEnable _ _ _ _ _ | .writeSnapshotSetting _ _ _ _ _ => true
  | .readEntryRoute _ _ _ | .writeEntryRoute _ _ _ | .eraseEntryRoute _ _ _
  | .readEntryGroup _ _ _ | .writeEntryGroup _ _ _ _ | .eraseEntryGroup _ _ _
  | .readEntryCurve _ _ _ | .eraseEntryCurve _ _ _
  | .readEntryWheel _ _ _ | .writeEntryWheel _ _ _ _ | .eraseEntryWheel _ _ _
  | .readEntryCritical _ _ _ | .eraseEntryCritical _ _ _
  | .readEntryStatusField _ _ _ | .writeEntryStatusField _ _ _ _ | .eraseEntryStatusField _ _ _
  | .readEntryNotice _ _ _ | .writeEntryNotice _ _ _ _ | .eraseEntryNotice _ _ _ => true
  | .enterMaintenance _ _ | .leaveMaintenance _ _ | .storeTables _ _ | .restart _ _ | .checkPath _ _
  | .learnWheel _ _ _ | .cancelLearn _ _ | .readNotice _ _ _ | .clearNotice _ _ _ | .readSnapshot _ _ _
  | .clearSnapshots _ _ => true
  | .transmissionAttemptStart _ | .transmissionSucceeded _ | .transmissionFailed _ => true
  | .flSilence | .rlSilence | .staleTimerExpiry _ | .stationaryTimerExpiry | .supplyAccepted _
  | .parkAccepted _ | .demandTimeout | .refreshTimerExpiry _ | .deviationTimerExpiry _ | .stepTimerExpiry
  | .secondTick | .missingTimerExpiry _ | .learnTimeout | .pulseTimerExpiry | .testTimerExpiry
  | .minimumTimerExpiry | .releaseTimerExpiry | .statusMinimumTimerExpiry | .statusPeriodicTimerExpiry
  | .assemblyTimerExpiry _ | .restartTimerExpiry | .storeWriteComplete | .storeWriteFailure
  | .storeTimeLimitExpiry | .inputFilterSample _ _ => true

end Sys2Proof
end

