-- ==== Sys2Proof/Tests/Slice0.lean ====
section
/-! SUPPORT. The model's own tests: check values and worked numbers of the spec, ill-formed commands, and,
for each statement that has hypotheses, a concrete state and operands that meet them. -/

namespace Sys2Proof.Tests

set_option Elab.async false

open Sys2Proof.Machine

/-! ### Helpers -/

/-- The state a command answers with. -/
def after (s : State) (c : Instr) : State :=
  match exec c s with
  | .next t => t
  | .fault _ => s
  | .refused _ => s

/-- An identifier whose fields are 0 but for the hop and the selector. -/
def hdr (hop sel : Nat) : Header :=
  { priority := 0, hop := BitVec.ofNat 3 hop, target := 0, origin := 0, selector := BitVec.ofNat 12 sel }

/-- The data bytes of a DEMAND with a right check byte. -/
def demandData (pressure speed flags counter : Nat) : List Byte :=
  let b := natHalf pressure ++ natHalf speed ++ [byteOf flags, byteOf counter, 0]
  b ++ [crc8 b]

/-- The data bytes of a plausible sample. -/
def sampleData (v : Nat) : List Byte := 1 :: natHalf v

/-- The data bytes of a TYRE REPORT. -/
def tyreData (id : Word) (pressure temperature flags : Nat) : List Byte :=
  wordBytes id ++ natHalf pressure ++ [byteOf (temperature + 40), byteOf flags]

/-- A fresh part once START has ended with both pins high: supply present, PARK active. -/
def run0 : State :=
  let input : InputRec :=
    { pin := .high, accepted := some .high, previous := some .high, sampler := .running 32 }
  { State.reset with
    me := { State.reset.me with op := .run }
    si := { State.reset.si with supply := input, park := input }
    du := { State.reset.du with mode := .fallback } }

/-- Tables that pass every cross-check: group 1 with a curve, wheel 1 with a sensor. -/
def site : Tables :=
  { Tables.defaults with
    groups := { GroupsTable.defaults with
      records := (Bank.fill 3 { GroupRec.defaults with configured := false }).write 0
        { configured := true, rated := 2400, emptyKnee := 256, ladenKnee := 922, emptyRatio := 380,
          threshold := 30, cap := some 400 }
      curves := (Bank.fill 3 []).write 0 [(40, 450), (180, 1300), (420, 2700)] }
    stability := { StabTable.defaults with
      enable := true, order := [0], critical := [(256, 420), (1024, 300)] }
    wheels := { WheelsTable.defaults with
      records := (Bank.fill 24 WheelRec.defaults).write 0
        { WheelRec.defaults with configured := true, sensorId := some 7 } } }

/-- The part in RUN on those tables, standing still, own position 2, link ACTIVE, every section valid. -/
def stand : State :=
  { run0 with
    tables := site
    ts := { run0.ts with validity := allValid, check := .passed, startTimer := .stopped }
    lr := { run0.lr with ownPos := some 2, ports := Bank.fill 3 .fresh }
    si := { run0.si with motion := .stationary }
    du := { run0.du with
      link := .active, lastCounter := some 3, lastDemand := some 0, lastSpeed := some 0, mode := .normal }
    bt := { channels := (Bank.fill 6 (ChannelRun.fresh false)).write 0 (ChannelRun.fresh true)
            check := { PathCheck.fresh with overall := .passed } }
    nu := NoticeUnit.fresh noticeDefaults
    sc := { StatusUnit.fresh 0 0 with sending := true } }

/-- The same part in maintenance. -/
def maint : State :=
  { stand with me := { stand.me with op := .maintenance }, du := { stand.du with mode := .maintenance } }

/-! ### Check values and worked numbers of the spec -/

/-- R44: the check byte of the digits 1 to 9. -/
theorem test_crc8_digits : crc8 ((List.range 9).map fun n => byteOf (0x31 + n)) = 0x4B := by decide +kernel

/-- R174: the CRC-16 of the digits 1 to 9. -/
theorem test_crc16_digits : crc16 ((List.range 9).map fun n => byteOf (0x31 + n)) = 0x29B1 := by
  decide +kernel

/-- R35: a window of -301 and -302 has the mean -301. -/
theorem test_mean_truncates : divTrunc (-603) 2 = -301 := by decide +kernel

/-- R106: 674 kPa on a nominal 800 is q 842, which takes NORMAL to LOW under the default settings. -/
theorem test_band_worked :
    pressureRatio 674 800 = 842 ∧ bandAfter WheelsTable.defaults .normal 842 = .low := by decide +kernel

/-- R13, R15: the built-in table holds its 15 entries under the law of the table. -/
theorem test_built_in_law : routeLaw builtInTable ∧ (storedRoutes builtInTable).length = 15 := by
  unfold routeLaw
  decide +kernel

/-- R200: the listed values of the test group order are those that the write takes, as far as 0x3FFF. -/
theorem test_order_values :
    (List.range 0x4000).filter (fun v => (orderOfCode v).isSome) = orderValues := by decide +kernel

/-- R175: the group READ ITEM 0x001 with tag 7 is the request it packs. -/
theorem test_parse_read_item : parseRequest 0x01 [0x00, 0x01, 0x00] = .ok (.readItem 0x001 0) := by
  decide +kernel

/-! ### Ill-formed commands -/

/-- A CAN frame of nine data bytes is ill formed. -/
theorem test_wf_refuses_nine_bytes : (Instr.demand (hdr 0 0) (List.replicate 9 0)).wf = false := by
  decide +kernel

/-- An 11-bit identifier above 0x7FF is ill formed. -/
theorem test_wf_refuses_wide_identifier :
    (Instr.frameReceived .fl { form := .standard, ident := 0x800, data := [] }).wf = false := by decide +kernel

/-- An item number above 0xFFF is ill formed. -/
theorem test_wf_refuses_item : (Instr.readItem .fl 0 0x1000 0).wf = false := by decide +kernel

/-- A list of fifteen points fits no group. -/
theorem test_wf_refuses_points :
    (Instr.writeEntryCurve .fl 0 1 (List.replicate 15 (0, 0))).wf = false := by decide +kernel
/-! ### Hypotheses met: the step, start and the laws -/

theorem test_meets_StepRunsFront : (State.reset.setPending [.powerOn]).pending = .powerOn :: [] := by rfl

theorem test_meets_IdleStepKeepsTime :
    State.reset.pending = [] ∧ State.reset.owed = [] ∧ State.reset.dueCommands = []
      ∧ (run0.setLr { run0.lr with flSilence := .running 0 }).dueCommands = [.flSilence]
      ∧ (run0.setLr { run0.lr with flSilence := .running 1 }).dueCommands = [] := by
  decide +kernel

/-- A store in progress on a part of the image. -/
def storing (i : Fin 8) : State :=
  maint.setTs { maint.ts with writing := some i, limit := .running 0 }

theorem test_meets_PowerOnStartsEveryUnit :
    stand.ts.writing = none ∧ (storing 0).ts.writing = some (Sect.index .route).castSucc
      ∧ (storing 7).ts.writing = some 7 := by decide +kernel

/-- The beginning of START over an image whose every part was written whole. -/
def stocked : State :=
  let im : Image := { Image.blank with routes := storedRoutes builtInTable, tables := site }
  State.reset.setTs { State.reset.ts with
    image := Sect.list.foldl (fun i x => i.withCrc x) (im.withHeader 1) }

theorem test_meets_EndOfStartEntersRun :
    State.reset.me.op = .start ∧ State.reset.ready
      ∧ stocked.me.op = .start ∧ stocked.ready
      ∧ (stocked.ts.image.routes.map (·.key)).Nodup
      ∧ stocked.bt = .fresh .defaults ∧ stocked.su = .fresh .defaults ∧ stocked.du = .fresh
      ∧ stocked.si.vref = 0 ∧ stocked.si.motion = .undetermined ∧ stocked.si.stationary = .stopped
      ∧ stocked.roomFor .wb 6 ∧ (∀ f, stocked.sc.lastSent.read f = 0) ∧ stocked.sc.minTimer = .stopped
      ∧ stocked.sc.sending = false ∧ (stocked.port .fl).on = true ∧ (stocked.port .fl).queue = [] := by
  decide +kernel

theorem test_meets_EndOfStartEntersRun_after :
    let t := after stocked (.endOfStart .high .low)
    let u := after State.reset (.endOfStart .high .low)
    t.valid .route = true ∧ u.valid .route = false ∧ t.valid .groups = true ∧ u.valid .groups = false
      ∧ (t.channel 0).configured = true ∧ (t.channel 2).configured = false
      ∧ (t.statusInForce.fields.read 0).change = true
      ∧ readItemAt t 0x100 0 = .value (some 1024) ∧ t.tables.itemTakes 0x100 1024 = some true := by
  decide +kernel

/-- Restart pending with its time run out. -/
def restarting : State :=
  maint.setMe { maint.me with restartPending := true, restartTimer := .running 0 }

/-- Restart pending, the segment of its reply on WB waiting or in transmission. -/
def replying (sending : Bool) : State :=
  restarting.setPort .wb { restarting.port .wb with
    queue := [{ restarting.ownMsg 4 kManageReply 0 [0x10] with restartReply := true, sending := sending }] }

/-- In maintenance, WB OFF. -/
def deaf : State := maint.setPort .wb { maint.port .wb with on := false }

/-- In maintenance, the WB queue full of what no reply displaces. -/
def crowded : State :=
  maint.setPort .wb { maint.port .wb with queue := List.replicate 16 (maint.ownMsg 1 kModulator 1 [0, 0]) }

theorem test_meets_RestartKeepsNotices :
    restarting.me.restartPending = true ∧ restarting.me.restartTimer.due = true
      ∧ restarting.ts.writing = none ∧ restarting.owed = []
      ∧ ((replying true).port .wb).queue.all (·.sending) = true
      ∧ (∀ q, q ≠ .wb → ((replying true).port q).queue = []) ∧ ((replying true).port .wb).on = true
      ∧ deaf.takesWrites ∧ (deaf.port (sourcePort .wb)).on = false ∧ deaf.ts.writing = none
      ∧ crowded.takesWrites ∧ (crowded.port .wb).queue.length = 16
      ∧ (∀ m ∈ (crowded.port .wb).queue, m.hdr.priority ≤ 4 ∧ m.restartReply = false)
      ∧ (∃ m ∈ ((replying false).port .wb).queue, m.restartReply = true)
      ∧ heldRequest (.storeTables .fl 1) = some (.fl, 0x12, 1) ∧ (replying false).receives .wb = true
      ∧ ((replying false).setTu { maint.tu with tickDue := true }).tu.tickDue = true := by
  refine ⟨?_, ?_, ?_, ?_, ?_, ?_, ?_⟩
  case refine_6 => intro q h; cases q <;> first | (decide +kernel) | exact absurd rfl h
  all_goals decide +kernel

/-- Restart pending with STATUS due, its reply the youngest of the lowest priority in a full FL queue. -/
def evicting : State :=
  let reply : QMsg := { restarting.ownMsg 4 kManageReply 0 [0x10] with restartReply := true }
  let s := restarting.setPort .fl { restarting.port .fl with
    queue := List.replicate 14 (restarting.ownMsg 4 kManageReply 0 [0]) ++ reply
      :: [restarting.ownMsg 3 kNotice 1 []] }
  s.setSc { s.sc with periodic := .running 0 }

theorem test_meets_RestartKeepsNotices_eviction :
    evicting.me.restartPending = true ∧ evicting.sc.periodic.due = true ∧ (evicting.port .fl).on = true
      ∧ (evicting.port .fl).queue.length = 16 ∧ evicting.ts.writing = none ∧ evicting.owed = []
      ∧ (∀ m ∈ (evicting.port .fl).queue.take 14, m.restartReply = false ∧ m.hdr.priority ≤ 4)
      ∧ (∀ m ∈ (evicting.port .fl).queue.drop 15, m.restartReply = false ∧ m.hdr.priority < 4)
      ∧ (((evicting.port .fl).queue.drop 14).head?.map fun m => (m.restartReply, m.sending, m.hdr.priority))
          = some (true, false, 4)
      ∧ (∀ m ∈ (evicting.port .fl).queue, m.own = true → m.kind ≠ kStatus)
      ∧ (evicting.port .rl).queue = [] ∧ (evicting.port .wb).queue = []
      ∧ isRequest (.readItem .fl 1 0 0) = true ∧ isRequest (.readEntryRoute .fl 1 0) = true
      ∧ isRequest (.storeTables .fl 1) = true := by decide +kernel

/-- With nothing due and nothing waiting, a step is one millisecond. -/
theorem stand_steps : step stand = .next stand.tick := by
  have h1 : stand.pending = [] := by decide +kernel
  have h2 : stand.dueCommands = [] := by decide +kernel
  have h3 : stand.owed = [] := by decide +kernel
  unfold step
  rw [h1]
  unfold idle
  rw [h2, h3]
  rfl

theorem test_meets_RouteLawKept : routeLaw stand.lr.routes ∧ step stand = .next stand.tick := by
  refine ⟨?_, stand_steps⟩
  unfold routeLaw
  decide +kernel

theorem test_meets_LinkLawsKept :
    stand.queueLaw = true ∧ stand.rearLaw ∧ stand.positionLaw ∧ step stand = .next stand.tick := by
  have h2 : stand.lr.ownPos = some 2 := by decide +kernel
  have h3 : (stand.port .rl).queue = [] := by decide +kernel
  refine ⟨by decide +kernel, ⟨?_, by rw [h3]; intro m h; cases h⟩, ⟨?_, by decide +kernel⟩, stand_steps⟩ <;>
    (intro p h; rw [h2] at h; injection h; omega)

theorem test_meets_TableLawsKept :
    stand.tables.sensorLaw ∧ stand.candidateLaw ∧ stand.startLaw ∧ stand.tables.inRange = true
      ∧ stand.si.windowLaw ∧ step stand = .next stand.tick := by
  refine ⟨?_, ?_, ?_, by decide +kernel, ?_, stand_steps⟩
  · have h2 : ∀ p, (stand.tables.wheels.records.read p).sensorId = if p = 0 then some 7 else none := by
      decide +kernel
    intro p q id hp hq
    rw [h2] at hp hq
    split at hp <;> split at hq <;> simp_all
  · unfold State.candidateLaw
    decide +kernel
  · unfold State.startLaw
    decide +kernel
  · unfold SampleIntake.windowLaw
    decide +kernel

theorem test_meets_NoticeLawsKept :
    stand.nu.lampLaw ∧ stand.nu.snapshotLaw ∧ stand.nu.presentLaw ∧ step stand = .next stand.tick := by
  refine ⟨?_, ?_, ?_, stand_steps⟩
  · unfold NoticeUnit.lampLaw
    decide +kernel
  · unfold NoticeUnit.snapshotLaw
    decide +kernel
  · intro k h
    cases k <;> decide +kernel

theorem test_meets_StabilityLawsKept :
    stand.su.demandLaw ∧ stand.su.activeLaw ∧ step stand = .next stand.tick := by
  refine ⟨?_, ?_, stand_steps⟩
  · unfold StabUnit.demandLaw
    decide +kernel
  · unfold StabUnit.activeLaw
    decide +kernel

/-- The fresh part after the end of START. -/
def started : State := after State.reset (.endOfStart .high .high)

/-- R190, R192, R2: no section of a blank image is good, and the part enters RUN with the table check FAILED. -/
theorem test_blank_image_starts :
    started.me.op = .run ∧ started.ts.check = .failed ∧ started.lr.flSilence = .running 500 := by decide +kernel

/-- What a step of that part needs, and what it answers. -/
theorem started_steps : started.owed = [] ∧ step started = .next started.tick ∧ started.tick.owed = [] := by
  have h1 : started.pending = [] ∧ started.dueCommands = [] ∧ started.owed = [] ∧ started.tick.owed = [] := by
    decide +kernel
  refine ⟨h1.2.2.1, ?_, h1.2.2.2⟩
  unfold step
  rw [h1.1]
  unfold idle
  rw [h1.2.1, h1.2.2.1]
  rfl

theorem test_meets_LoadsKeptCurrent : started.modeLaw ∧ started.loadsCurrent := by
  have h : started.modeLaw ∧ started.du.mode ≠ .start := by decide +kernel
  exact ⟨h.1, by decide +kernel, by decide +kernel, by decide +kernel⟩

theorem test_meets_LoadsKeptCurrent_effect : started.effectLaw ∧ stand.effectLaw := by decide +kernel

theorem test_meets_TargetLawsKept :
    started.targetsCurrent ∧ started.du.mode ≠ .start ∧ started.bt.check.under ≠ some 0
      ∧ (started.channel 0).configured = true ∧ (started.channel 0).target ≤ started.limit :=
  ⟨⟨by decide +kernel, by decide +kernel, by decide +kernel, by decide +kernel, by decide +kernel⟩,
    by decide +kernel⟩

/-- A state with every copy and live value as its owner holds it. -/
def current (s : State) : State :=
  let s1 := s.setLu (Bank.ofFn s.groupNow)
  let i := s1.su.inputs
  let s2 := s1.setSu { s1.su with
    testChannel := s1.si.testChannel
    inputs := { i with
      ay := s1.filteredLateral, lateral := (s1.record .lateral).state, vref := s1.si.vref
      wheel := Bank.ofFn fun c => (s1.record (.speed c)).state
      speeds := Bank.ofFn fun c => some ((s1.record (.speed c)).last.getD 0).toNat
      loads := Bank.ofFn fun g =>
        { load := (s1.lu.read g).load, rated := (s1.groupRec g).rated, quality := (s1.lu.read g).quality }
      deflated := s1.tu.deflated, low := s1.tu.low
      fault := Bank.ofFn fun c => (s1.channel c).fault
      configured := Bank.ofFn fun c => (s1.channel c).configured
      path := s1.bt.check.overall, mode := s1.du.mode } }
  let loads : Bank (Option Nat) 3 := Bank.ofFn fun g => (s2.lu.read g).load
  let qualities : Bank LoadQuality 3 := Bank.ofFn fun g => (s2.lu.read g).quality
  s2.setSc { s2.sc with
    targets := s2.targets, loads := loads, qualities := qualities, fraction := s2.su.fraction
    live := ⟨[s2.du.mode.code, s2.du.link.code, s2.su.state.code, s2.tu.worst.code, bit s2.nu.lampOut,
      rearAlert s2.sc.rear, (s2.targets.cells.foldl max 0) / 5, combinationLoad loads qualities,
      fractionField s2.su.fraction, s2.bt.check.overall.code * 4 + s2.ts.check.code, s2.nu.classMask,
      s2.lr.ownPos.getD 0], rfl⟩ }

/-- TESTING on channel 1 with every copy current. -/
def testing : State :=
  let s := stand
  let good : ChannelRec := { last := some 250, arrival := some 0, state := .good, run := 50, stale := .running 90 }
  current { s with
    si := { s.si with
      records := s.si.records.write (Quantity.index .lateral) good, lateral := [250], testChannel := some 0 }
    su := { s.su with state := .testing, testChannel := some 0, pulseTimer := .running 100 } }

theorem test_meets_CopiesKeptCurrent :
    testing.owed = [] ∧ testing.modeLaw ∧ testing.copiesCurrent ∧ testing.liveCurrent ∧ testing.su.activeLaw
      ∧ testing.su.state = .testing ∧ step testing = .next testing.tick ∧ testing.tick.owed = [] := by
  have h : testing.owed = [] ∧ testing.modeLaw ∧ testing.su.state = .testing ∧ testing.pending = []
      ∧ testing.dueCommands = [] ∧ testing.tick.owed = [] ∧ testing.du.mode ≠ .start := by decide +kernel
  refine ⟨h.1, h.2.1, ⟨?_, ?_, ?_, ?_, ?_, ?_, ?_, ?_, ?_, ?_, ?_, ?_, ?_, ?_⟩,
    ⟨?_, ?_, ?_, ?_, ?_, ?_, ?_, ?_, ?_, ?_, ?_, ?_, ?_, ?_, ?_, ?_⟩, ?_, h.2.2.1, ?_, h.2.2.2.2.2.1⟩
  case refine_31 => intro _; decide +kernel
  case refine_32 =>
    unfold step
    rw [h.2.2.2.1]
    unfold idle
    rw [h.2.2.2.2.1, h.1]
    rfl
  all_goals decide +kernel

/-! ### Hypotheses met: Link Router -/

theorem test_meets_RelationTable :
    relationOf .fl (some 2) 1 = .ahead ∧ relationOf .fl (some 2) 2 = .self
      ∧ relationOf .rl (some 2) 3 = .behind ∧ relationOf .rl none 1 = .unplaced
      ∧ relationOf .fl none 0 = .all ∧ Port.fl ≠ .wb := by decide +kernel

/-- An entry that the built-in set does not hold. -/
def tyreRelay : RouteEntry := builtInEntry .rl kTyre .ahead .noUnit true false

/-- A table whose 64 slots are all occupied by one key takes no other. -/
def fullTable : Bank RouteSlot 64 :=
  Bank.fill 64 { valid := true, cont := true, entry := builtInEntry .fl kDemand .all .du false true,
                 used := false }

theorem test_meets_RouteTableWrites :
    routeLaw builtInTable ∧ (insertRoute builtInTable tyreRelay).isSome = true
      ∧ (builtInTable.read (((lookupRoute builtInTable { port := .fl, kind := kDemand, relation := .all })).getD 0)).valid = true
      ∧ maint.takesWrites ∧ routeEntryOk tyreRelay = true ∧ (insertRoute maint.lr.routes tyreRelay).isSome = true
      ∧ maint.roomForReply .wb 0x05 1 .done [0] ∧ maint.roomForReply .wb 0x06 1 .absent []
      ∧ maint.roomForReply .fl 0x05 1 .badParam [] ∧ (63 : Nat) < (64 : Byte).toNat
      ∧ insertRoute fullTable tyreRelay = none
      ∧ (∃ i, (maint.lr.routes.read i).valid = true) ∧ (∃ i, (maint.lr.routes.read i).valid = false) := by
  unfold routeLaw
  decide +kernel

/-- A NOTICE from behind, in identifier bits. -/
def rearNotice : BusFrame :=
  { form := .extended, data := [0]
    ident := joinIdent kNotice { priority := 3, hop := 3, target := 0, origin := 3, selector := 5 } }

/-- A management request for a trailer behind. -/
def behindRequest : BusFrame :=
  { form := .extended, data := [0]
    ident := joinIdent kManageRequest { priority := 4, hop := 1, target := 3, origin := 0, selector := 0 } }

/-- A TYRE REPORT on FL, which no entry routes. -/
def strayReport : BusFrame := { form := .extended, data := [], ident := joinIdent kTyre (hdr 0 0) }

/-- The part with an entry that names DU as the consumer of what DU does not take. -/
def misrouted : State :=
  let e := builtInEntry .fl kTyre .all .du false false
  stand.setLr { stand.lr with routes := ((insertRoute stand.lr.routes e).map (·.1)).getD stand.lr.routes }

theorem test_meets_FrameReceivedIsForwarded :
    stand.ready ∧ stand.receives .rl = true ∧ stand.receives .fl = true
      ∧ (BusFrame.taken rearNotice).kind = kNotice
      ∧ (∃ i, stand.hit .rl (BusFrame.taken rearNotice) = some i
          ∧ (stand.lr.routes.read i).entry.consumer = .noUnit ∧ (stand.lr.routes.read i).entry.toFL = true)
      ∧ (∃ i, stand.hit .fl (BusFrame.taken behindRequest) = some i
          ∧ (stand.lr.routes.read i).entry.consumer = .noUnit ∧ (stand.lr.routes.read i).entry.toRL = true)
      ∧ stand.lr.ownPos = some 2 ∧ stand.roomFor .fl 1 ∧ stand.roomFor .rl 1
      ∧ stand.hit .fl (BusFrame.taken strayReport) = none ∧ (BusFrame.taken strayReport).kind ≠ kDemand
      ∧ (∃ i, misrouted.hit .fl (BusFrame.taken strayReport) = some i
          ∧ Consumer.takes (misrouted.lr.routes.read i).entry.consumer .fl kTyre = false
          ∧ (misrouted.lr.routes.read i).entry.toFL = false ∧ (misrouted.lr.routes.read i).entry.toRL = false)
      ∧ FrameForm.standard ≠ .extended ∧ State.reset.receives .fl = false := by decide +kernel

/-- A message of a priority. -/
def msg (priority : Nat) (kind : BitVec 5) (sending : Bool) : QMsg :=
  { kind := kind, hdr := { hdr 0 1 with priority := BitVec.ofNat 3 priority }, data := [], own := true,
    restartReply := false, sending := sending }

theorem test_meets_OfferFollowsPlacementRules :
    (msg 1 kModulator false).replacedBy (msg 1 kModulator false) = true
      ∧ (msg 1 kModulator false).replacedBy { msg 1 kModulator false with own := false } = false
      ∧ (msg 3 kNotice false).replacedBy (msg 1 kModulator false) = false
      ∧ (List.replicate 16 (msg 3 kNotice false)).length = 16
      ∧ (msg 1 kModulator false).hdr.priority < (msg 3 kNotice false).hdr.priority
      ∧ (msg 3 kNotice false).replacedBy (msg 3 kNotice false) = false := by
  decide +kernel

/-- The part with a given queue on a port. -/
def withQueue (p : Port) (q : List QMsg) : State := stand.setPort p { stand.port p with queue := q }

theorem test_meets_PortCommands :
    ((withQueue .fl [msg 3 kNotice false, msg 2 kStatus false]).port .fl).on = true ∧ stand.ready
      ∧ ((withQueue .fl [msg 3 kNotice false, msg 2 kStatus false]).port .fl).queue
          = [msg 3 kNotice false] ++ msg 2 kStatus false :: []
      ∧ (∀ m ∈ [msg 3 kNotice false], (msg 2 kStatus false).hdr.priority < m.hdr.priority)
      ∧ ((withQueue .fl [msg 2 kStatus true, msg 2 kStatus false]).port .fl).queue
          = [] ++ msg 2 kStatus true :: [msg 2 kStatus false]
      ∧ (msg 2 kStatus true).sameClass (msg 2 kStatus false) = true ∧ (stand.port .wb).on = true
      ∧ ((stand.setPort .wb { stand.port .wb with on := false, offTimer := .running 0 }).port .wb).offTimer.due
          = true := by decide +kernel

/-- R19: an older waiting message of the class does not take the place of a failed one; a newer one does. -/
theorem test_failed_attempt_looks_behind :
    attemptFailed [msg 1 kModulator false, msg 0 kModulator true]
        = [msg 1 kModulator false, msg 0 kModulator false]
      ∧ attemptFailed [msg 0 kModulator true, msg 1 kModulator false] = [msg 1 kModulator false] := by
  decide +kernel

/-! ### Hypotheses met: demand and intake -/

/-- The demand timeout and both silence timers run out. -/
def timedOut : State :=
  { stand with
    du := { stand.du with timeout := .running 0 }
    lr := { stand.lr with flSilence := .running 0, rlSilence := .running 0 } }

/-- The same with DEMAND_LOST a trigger and no wheel-speed record GOOD. -/
def recording : State :=
  { timedOut with
    nu := { timedOut.nu with maskDemandLost := true }
    si := { timedOut.si with records := Bank.fill 18 .fresh, vref := 4000, vrefQuality := .tractor } }

theorem test_meets_LinkIsLost :
    timedOut.ready ∧ timedOut.lr.flSilence.due = true ∧ timedOut.lr.rlSilence.due = true
      ∧ timedOut.du.timeout.due = true ∧ timedOut.du.link = .active ∧ timedOut.du.lastCounter = some 3
      ∧ timedOut.active .supply = false ∧ recording.nu.maskDemandLost = true ∧ recording.nu.snapshots.length < 4
      ∧ recording.du.link = .active ∧ recording.active .supply = false := by
  decide +kernel

/-- R157: the DEMAND_LOST record holds the speed from before SI acts, here the tractor's. -/
theorem test_demand_lost_keeps_speed :
    (after recording .demandTimeout).nu.snapshots.map (fun r => (r.link, r.vref)) = [(.lost, 4000)]
      ∧ (after recording .demandTimeout).si.vref = 0 := by decide +kernel

theorem test_meets_DemandJudgments :
    hopTest none 3 = true ∧ hopTest none 4 = false ∧ hopTest (some 1) 0 = true ∧ hopTest (some 1) 1 = false
      ∧ verdictOf stand.du (demandData 300 4000 0 3) = .stale
      ∧ verdictOf stand.du (demandData 300 4000 0 4) = .valid
      ∧ verdictOf stand.du ((demandData 300 4000 0 4).take 7) = .invalid
      ∧ recoveryAfter 2 (some 15) 0 = 3 ∧ recoveryAfter 2 (some 15) 1 = 1 ∧ recoveryAfter 0 (some 15) 0 = 1 := by
  decide +kernel

/-- A DEMAND frame for a trailer in position 2. -/
def demandFrame (counter : Nat) : Frame :=
  { kind := kDemand, hdr := hdr 1 0, data := demandData 300 4000 0 counter }

theorem test_meets_DemandNotTakenChangesNothing :
    stand.ready ∧ stand.receives .fl = true ∧ hopTest stand.lr.ownPos 2 = false
      ∧ hopTest stand.lr.ownPos 1 = true ∧ verdictOf stand.du [1, 2] = .invalid
      ∧ verdictOf stand.du (demandData 300 4000 0 3) = .stale
      ∧ (∃ i, stand.hit .fl (demandFrame 3) = some i ∧ (stand.lr.routes.read i).entry.consumer = .du
          ∧ (stand.lr.routes.read i).entry.toRL = true)
      ∧ stand.hit .fl { demandFrame 3 with data := [1, 2] } = stand.hit .fl (demandFrame 3)
      ∧ stand.lr.ownPos = some 2 ∧ stand.roomFor .rl 1 := by decide +kernel

/-- The link lost, two DEMANDs of a run counted. -/
def lost : State := stand.setDu { stand.du with link := .lost, recovery := 2 }

theorem test_meets_ValidDemandIsTaken :
    stand.routesTo .fl (demandFrame 4) .du ∧ verdictOf stand.du (demandData 300 4000 0 4) = .valid
      ∧ lost.routesTo .fl (demandFrame 4) .du ∧ verdictOf lost.du (demandData 300 4000 0 4) = .valid
      ∧ recoveryAfter lost.du.recovery lost.du.lastCounter 4 = 3
      ∧ recoveryAfter lost.du.recovery lost.du.lastCounter 9 = 1
      ∧ hopTest stand.lr.ownPos 1 = true ∧ lost.ready
      ∧ (∃ i, stand.hit .fl (demandFrame 4) = some i ∧ (stand.lr.routes.read i).entry.toRL = true)
      ∧ stand.lr.ownPos.getD 2 ≠ 4 ∧ stand.roomFor .rl 1
      ∧ stand.du.link ≠ .lost ∧ stand.du.emergency = false ∧ stand.nu.maskEmergency = true
      ∧ stand.nu.snapshots.length < 4 ∧ (readDemand (demandData 300 4000 1 4)).chain = true := by decide +kernel

/-- The frame of a bellows sample. -/
def bellowsFrame : Frame := { kind := kBellows, hdr := hdr 0 1, data := sampleData 180 }

/-- A record in a state. -/
def withRecord (q : Quantity) (st : RecState) (run : Nat) (v : Int) : State :=
  stand.setSi { stand.si with
    records := stand.si.records.write q.index
      { last := some v, arrival := some 0, state := st, run := run, stale := .running 0 } }

theorem test_meets_SampleIsJudged :
    sampleFrame (.bellowsSample (hdr 0 1) (sampleData 180)) = some bellowsFrame
      ∧ stand.routesTo .wb bellowsFrame .si
      ∧ Quantity.ofSelector kBellows (hdr 0 1).selector = some (.bellows 0)
      ∧ readSample kBellows (sampleData 180) = some (true, 180)
      ∧ stand.plausible (.bellows 0) true 180 = true ∧ stand.plausible (.bellows 0) true 1001 = false
      ∧ (stand.record (.bellows 0)).state = .unknown
      ∧ ((withRecord (.bellows 0) .suspect 49 180).record (.bellows 0)).state = .suspect
      ∧ ((withRecord (.bellows 0) .good 50 180).record (.bellows 0)).state = .good
      ∧ ((withRecord (.bellows 0) .good 50 180).record (.bellows 0)).stale.due = true
      ∧ ((withRecord .lateral .good 50 180).record .lateral).stale.due = true := by decide +kernel

/-- The same frame with a byte missing, and a bellows sample of no group. -/
def poorFrames : List Frame :=
  [{ bellowsFrame with data := [1, 0] }, { bellowsFrame with hdr := hdr 0 4 }, { bellowsFrame with hdr := hdr 0 0 }]

theorem test_meets_SampleIsJudged_discarded :
    (∀ fr ∈ poorFrames, ∃ i, stand.hit .wb fr = some i ∧ (stand.lr.routes.read i).entry.consumer = .si
        ∧ (stand.lr.routes.read i).entry.toFL = false ∧ (stand.lr.routes.read i).entry.toRL = false)
      ∧ stand.ready ∧ stand.receives .wb = true
      ∧ sampleFrame (.bellowsSample (hdr 0 4) (sampleData 180)) = some { bellowsFrame with hdr := hdr 0 4 }
      ∧ 3 < (hdr 0 4).selector.toNat ∧ [(1 : Byte), 0].length < 3 := by decide +kernel

/-- Full windows. -/
def fullWindows : State :=
  stand.setSi { stand.si with bellows := Bank.fill 3 [1, 2, 3, 4, 5, 6, 7, 8], lateral := [-1, -2, -3, -4] }

/-- The lateral record about to be stale, every copy current. -/
def lateralStale : State := current (withRecord .lateral .good 50 180)

theorem test_meets_WindowsAndStuckSensor :
    stand.routesTo .wb bellowsFrame .si
      ∧ stand.routesTo .wb { kind := kMotion, hdr := hdr 0 0, data := sampleData 180 } .si
      ∧ Quantity.ofSelector kMotion (hdr 0 0).selector = some .lateral
      ∧ stand.plausible .lateral true 2000 = true ∧ stand.plausible .lateral true 2001 = false
      ∧ (stand.si.bellows.read 0).length < 8 ∧ fullWindows.si.bellows.read 0 = 1 :: [2, 3, 4, 5, 6, 7, 8]
      ∧ fullWindows.si.lateral = -1 :: [-2, -3, -4] ∧ stand.si.lateral = []
      ∧ (∀ v ∈ fullWindows.si.bellows.read 0, 0 ≤ v) ∧ fullWindows.si.lateral.sum < 0
      ∧ lateralStale.ready ∧ (lateralStale.record .lateral).stale.due = true := by decide +kernel

theorem test_meets_WindowsAndStuckSensor_copies : lateralStale.copiesCurrent := by
  refine ⟨?_, ?_, ?_, ?_, ?_, ?_, ?_, ?_, ?_, ?_, ?_, ?_, ?_, ?_⟩ <;> decide +kernel

/-- The PARK input with a sample due, the level before it as given. -/
def sampling (previous : Level) : State :=
  stand.setSi (stand.si.setInput .park { stand.si.park with previous := some previous, sampler := .running 0 })

/-- The SUPPLY input with a sample due, and a low level before it. -/
def supplyFalls : State :=
  stand.setSi (stand.si.setInput .supply { stand.si.supply with previous := some .low, sampler := .running 0 })

/-- PARK unfiltered. -/
def unfiltered : State :=
  { stand with tables := { stand.tables with filters := { stand.tables.filters with
      park := { filter := .unfiltered, polarity := .activeHigh } } } }

theorem test_meets_InputCommands :
    (stand.setSi { stand.si with stationary := .running 0 }).si.stationary.due = true
      ∧ stand.slow ∧ stand.me.op = .run ∧ supplyFalls.canAccept .supply .low = true ∧ supplyFalls.calm
      ∧ (sampling .low).canAccept .park .low = true ∧ (sampling .high).canAccept .park .low = false
      ∧ stand.canAccept .park .low = false ∧ unfiltered.canAccept .park .low = true
      ∧ ((sampling .low).input .park).sampler.due = true ∧ (stand.input .park).sampler.due = false
      ∧ (unfiltered.filterOf .park).filter.period = none
      ∧ (stand.filterOf .park).filter.period = some 32 := by decide +kernel

theorem test_meets_SpeedModeAndCause :
    (∃ c, ((withRecord (.speed 2) .good 50 700).record (.speed c)).state = .good
        ∧ (withRecord (.speed 2) .good 50 700).si.testChannel ≠ some c)
      ∧ (¬ ∃ c : Fin 6, (stand.record (.speed c)).state = .good ∧ stand.si.testChannel ≠ some c)
      ∧ stand.du.link = .active ∧ lost.du.link ≠ .active := by decide +kernel

/-! ### Hypotheses met: load and brake -/

/-- Group 1 with a GOOD bellows record. -/
def loaded : State :=
  let s := withRecord (.bellows 0) .good 50 180
  s.setLu (s.lu.write 0 { s.lu.read 0 with bellows := some 180 })

theorem test_meets_LoadLaw :
    curveOk [(40, 450), (180, 1300), (420, 2700)] = true ∧ loaded.tables.inRange = true
      ∧ (loaded.computed 0).quality = .good ∧ loaded.du.mode ≠ .maintenance
      ∧ (stand.computed 0).quality = .fallback ∧ groupRecOk (loaded.groupRec 0) = true
      ∧ (loaded.computed 0).load = some 1300 ∧ (loaded.computed 0).fraction = some 554
      ∧ loaded.valid .groups = true ∧ loaded.curve 0 ≠ [] ∧ loaded.curve 1 = []
      ∧ started.valid .groups = false := by decide +kernel

theorem test_meets_LoadLaw_edges :
    ([25, 40, 47, 60, 180, 250, 420, 500].map fun b => loadAt b [(40, 450), (180, 1300), (420, 2700)])
      = [450, 450, 493, 571, 1300, 1708, 2700, 2700] := by decide +kernel

/-- Group 1 loaded above its rated load, and its sensor SUSPECT. -/
def heavy : State := (loaded.setLu (loaded.lu.write 0 { loaded.lu.read 0 with bellows := some 420 }))

/-- Group 1 with a SUSPECT bellows record. -/
def doubtful : State := withRecord (.bellows 0) .suspect 3 180

theorem test_meets_GroupIsComputedAndHanded :
    heavy.du.mode ≠ .start ∧ State.reset.du.mode = .start
      ∧ (heavy.groupNow 0).overload = true ∧ (heavy.lu.read 0).overload = false
      ∧ (doubtful.groupNow 0).cause = .sensorSuspect ∧ (doubtful.lu.read 0).cause = .sensorUnknown
      ∧ (stand.groupRec 1).configured = false ∧ (stand.groupNow 1).cause = .notConfigured
      ∧ (heavy.groupNow 0).load ≠ (heavy.lu.read 0).load
      ∧ (heavy.groupNow 0).quality ≠ (heavy.lu.read 0).quality
      ∧ (stand.groupRec 0).rated ≠ (stand.su.inputs.loads.read 0).rated
      ∧ (stand.groupNow 0).quality = (stand.lu.read 0).quality := by decide +kernel

/-- Group 1 computed at its load, every copy and live value current. -/
def weighed : State := current loaded

theorem test_meets_GroupIsComputedAndHanded_unchanged :
    weighed.du.mode ≠ .start ∧ weighed.loadsCurrent
      ∧ weighed.su.inputs.loads.read 0 = { load := some 1300, rated := 2400, quality := .good }
      ∧ (weighed.lu.read 0).load = some 1300 ∧ (weighed.groupRec 0).rated = 2400
      ∧ (weighed.lu.read 0).quality = .good
      ∧ weighed.sc.loads.read 0 = some 1300 ∧ weighed.sc.qualities.read 0 = .good := by
  have h : weighed.du.mode ≠ .start := by decide +kernel
  exact ⟨h, ⟨by decide +kernel, by decide +kernel, by decide +kernel⟩, by decide +kernel⟩

/-- Group 1 deflated; in emergency. -/
def deflated (m : BrakeMode) : State :=
  { stand with tu := { stand.tu with deflated := stand.tu.deflated.write 0 true }
               du := { stand.du with mode := m } }

theorem test_meets_LimitAndMerge :
    ((withRecord .reservoir .good 50 700).record .reservoir).state = .good
      ∧ ((withRecord .reservoir .good 50 700).record .reservoir).last = some 700
      ∧ (stand.record .reservoir).state ≠ .good
      ∧ (stand.channel 0).configured = true ∧ stand.du.mode ≠ .start ∧ stand.bt.check.under ≠ some 0
      ∧ stand.tu.deflated.read (groupOf 0) = false
      ∧ (deflated .normal).tu.deflated.read (groupOf 0) = true
      ∧ ((deflated .normal).groupRec (groupOf 0)).cap = some 400
      ∧ (deflated .emergency).du.mode = .emergency := by decide +kernel

/-- Channels 1 and 2 configured, channel 1 as given. -/
def braking (r : ChannelRun) (k : PathCheck) : State :=
  stand.setBt { channels := ((Bank.fill 6 (ChannelRun.fresh false)).write 0 r).write 1 (ChannelRun.fresh true)
                check := k }

/-- The path check on a channel at a step, its time run out. -/
def checking (c : Fin 6) (step : PathStep) : PathCheck :=
  { overall := .running, under := some c, step := some step, stepTimer := .running 0, requestPending := true }

theorem test_meets_BrakeTimerCommands :
    let due := braking { ChannelRun.fresh true with refresh := .running 0, deviation := .running 0 } .fresh
    let test := braking (ChannelRun.fresh true) (checking 0 .rise)
    due.ready ∧ (due.channel 0).refresh.due = true ∧ due.du.mode ≠ .start
      ∧ (due.channel 0).configured = true ∧ (due.port .wb).queue = []
      ∧ due.roomFor .wb 1 ∧ (due.channel 0).deviation.due = true ∧ due.calm
      ∧ test.bt.check.stepTimer.due = true ∧ test.bt.check.under = some 0
      ∧ (test.channel 0).configured = true ∧ (test.channel 1).configured = true
      ∧ (∀ e : Fin 6, 0 < e → e < 1 → (test.channel e).configured = false)
      ∧ ((due.setPort .wb { due.port .wb with on := false }).port .wb).on = false
      ∧ (due.channel 0).lastCommanded ≠ some 300 ∧ (due.channel 0).target ≠ 300 := by decide +kernel

theorem test_meets_CheckPathCommand :
    stand.takesRequests ∧ stand.eligible = true ∧ stand.bt.check.overall ≠ .running ∧ stand.slow
      ∧ (stand.channel 0).configured = true ∧ maint.eligible = false
      ∧ (braking (ChannelRun.fresh true) { PathCheck.fresh with overall := .running }).eligible = true := by
  decide +kernel

/-- Channel 1 fed back 61 kPa above what was commanded. -/
def deviating : State :=
  let s := withRecord (.feedback 0) .good 50 161
  let r := { ChannelRun.fresh true with lastCommanded := some 100, feedback := some 161 }
  s.setBt { s.bt with channels := s.bt.channels.write 0 r }

/-- A long operation of CHECK PATH. -/
def checkOp : LongOp := { kind := .checkPath, src := .fl, code := 0x20, tag := 1 }

/-- The slot held by CHECK PATH. -/
def awaited (s : State) : State := s.setMe { s.me with slot := some checkOp }

/-- Channels 3 to 6 configured until now in a part whose groups 2 and 3 are not, channel 3 under test. -/
def dropping : State :=
  let s := braking (ChannelRun.fresh true) (checking 2 .rise)
  s.setBt { s.bt with channels := Bank.fill 6 (ChannelRun.fresh true) }

/-- R80: a check passes over channels that one event unconfigures, with no command for any of them. -/
theorem test_unconfigured_channels_passed_over :
    ((followGroups (Work.begin dropping)).st.port .wb).queue = (dropping.port .wb).queue
      ∧ (followGroups (Work.begin dropping)).st.bt.check.under = none := by decide +kernel

/-- R96: a check that starts while no channel is configured has no channel that is not PASSED (log 52). -/
theorem test_check_without_channels :
    let s := stand.setBt { channels := Bank.fill 6 (ChannelRun.fresh false), check := .fresh }
    (startCheck (Work.begin s)).st.bt.check.overall = .passed := by decide +kernel

theorem test_meets_PathCheckSteps :
    let rise := awaited (braking (ChannelRun.fresh true) (checking 0 .rise))
    let fall := awaited (braking (ChannelRun.fresh true) (checking 1 .fall))
    let idle := braking (ChannelRun.fresh true) .fresh
    (deviating.channel 0).configured = true ∧ (deviating.record (.feedback 0)).state = .good
      ∧ (deviating.channel 0).feedback = some 161 ∧ (deviating.channel 0).lastCommanded = some 100
      ∧ rise.du.mode ≠ .start ∧ rise.bt.check.under = some 0 ∧ rise.bt.check.step = some .rise
      ∧ (rise.channel 1).configured = true ∧ (80 : Nat) ≤ 80 ∧ (79 : Nat) < 80
      ∧ fall.bt.check.under = some 1 ∧ fall.bt.check.step = some .fall ∧ (20 : Nat) < 21
      ∧ fall.bt.check.overall = .running ∧ (∀ d : Fin 6, 1 < d → (fall.channel d).configured = false)
      ∧ fall.bt.check.requestPending = true ∧ fall.me.slot = some checkOp
      ∧ idle.eligible = true ∧ idle.bt.check.overall = .notRun ∧ fall.eligible = true
      ∧ (dropping.channel 2).configured = true ∧ (dropping.groupRec (groupOf 2)).configured = false
      ∧ (rise.setDu { rise.du with inEffect := 1 }).eligible = false
      ∧ fall.roomFor .fl ((fall.replySegments 0x20 1 .done (List.replicate 7 0)).length + 2) := by decide +kernel

/-! ### Hypotheses met: tyres and learning -/

theorem test_meets_CompensationAndBands :
    (1400 : Nat) ≤ 1400 ∧ (-40 : Int) ≤ -40 ∧ (-40 : Int) ≤ 150 ∧ tyreSettingsOk WheelsTable.defaults = true := by
  decide +kernel

theorem test_meets_CompensationAndBands_edges :
    ([599, 600, 849, 850, 1199, 1200].map (bandAfter WheelsTable.defaults .normal))
        = [.deflated, .low, .low, .normal, .normal, .high]
      ∧ ([869, 870].map (bandAfter WheelsTable.defaults .low)) = [.low, .normal]
      ∧ ([619, 620, 869].map (bandAfter WheelsTable.defaults .deflated)) = [.deflated, .low, .low]
      ∧ ([1180, 1179].map (bandAfter WheelsTable.defaults .high)) = [.high, .normal] := by decide +kernel

/-- The frame of a report. -/
def tyreFrame (id : Word) : Frame := { kind := kTyre, hdr := hdr 0 0, data := tyreData id 780 60 1 }

/-- A wheel that last reported 800 kPa at time 0. -/
def reported (leak : Bool) : WheelRun :=
  { WheelRun.fresh WheelRec.defaults with state := .normal, leak := leak, pressure := some 800, time := some 0 }

/-- R107: 20 kPa in one minute set the flag at a threshold of 20; below 10 they clear it. -/
theorem test_meets_LeaksAndWheelReports :
    leakAfter 20 (reported false) 780 60000 = true ∧ leakAfter 20 (reported false) 781 60000 = false
      ∧ leakAfter 20 (reported true) 790 60000 = true ∧ leakAfter 20 (reported true) 791 60000 = false
      ∧ leakAfter 20 (reported false) 0 600001 = false
      ∧ (reported true).leak ≠ (stand.wheel 0).leak ∧ stand.roomFor .fl 4
      ∧ (∃ p, stand.wheelConfigured p = true ∧ (stand.wheel p).state = .unlearned) := by decide +kernel

theorem test_meets_TyreReportIsAccepted :
    stand.ready ∧ stand.calm ∧ stand.routesTo .wb (tyreFrame 7) .tu
      ∧ (hdr 0 0).selector = 0 ∧ (readTyre (tyreFrame 7).data).map (·.sensorId) = some 7
      ∧ stand.positionOf 7 = some 0 ∧ stand.wheelConfigured 0 = true := by decide +kernel

/-- The record of wheel 1 no longer configured. -/
def unconfigured : State :=
  stand.setTables { stand.tables with wheels := { stand.tables.wheels with
    records := stand.tables.wheels.records.write 0 { stand.wheelRec 0 with configured := false } } }

theorem test_meets_TyreReportIsAccepted_discarded :
    unconfigured.ready ∧ unconfigured.receives .wb = true
      ∧ (∃ i, unconfigured.hit .wb (tyreFrame 7) = some i
          ∧ (unconfigured.lr.routes.read i).entry.consumer = .tu
          ∧ (unconfigured.lr.routes.read i).entry.toFL = false
          ∧ (unconfigured.lr.routes.read i).entry.toRL = false)
      ∧ unconfigured.positionOf 7 = some 0 ∧ unconfigured.wheelConfigured 0 = false
      ∧ stand.positionOf 8 = none ∧ stand.tu.learn.state = .idle
      ∧ ((tyreFrame 7).data.take 7).length < 8 ∧ (hdr 0 1).selector ≠ 0 := by decide +kernel

/-- A learn that listens for wheel 1, with an entry of two reports. -/
def listening : State :=
  maint.setTu { maint.tu with learn :=
    { state := .listening, position := some 0, outcome := .noOutcome, timeout := .running 0
      candidates := [{ sensorId := 9, count := 2, rapidSeen := false, firstSeen := 0 }] } }

/-- The count and rapid-seen flag of the entry that a report makes or updates. -/
def heardEntry (fr : Frame) : Option (Nat × Bool) :=
  (readTyre fr.data).bind fun f =>
    ((updateCandidates listening.time f listening.tu.learn.candidates).find?
      (·.sensorId == f.sensorId)).map fun e => (e.count, e.rapidSeen)

theorem test_meets_UnknownReportIsLearned :
    listening.calm ∧ listening.routesTo .wb (tyreFrame 9) .tu ∧ listening.positionOf 9 = none
      ∧ listening.tu.learn.state = .listening ∧ listening.tu.learn.position = some 0
      ∧ listening.wheelConfigured 0 = true
      ∧ heardEntry (tyreFrame 9) = some (3, true) ∧ heardEntry (tyreFrame 10) = some (1, true) := by
  decide +kernel

theorem test_meets_LearnAndMissingTimers :
    maint.takesWrites ∧ maint.wheelConfigured 0 = true ∧ maint.wheelConfigured 1 = false
      ∧ maint.tu.learn.state = .idle ∧ maint.roomForReply .wb 0x21 1 .done []
      ∧ maint.roomForReply .wb 0x21 1 .badParam [] ∧ (24 : Nat) < (25 : Byte).toNat
      ∧ listening.takesWrites ∧ listening.tu.learn.state = .listening
      ∧ listening.roomForReply .wb 0x22 1 .done [1] ∧ listening.tu.learn.timeout.due = true
      ∧ (stand.setTu { stand.tu with tickDue := true }).tu.tickDue = true
      ∧ ((stand.setTu { stand.tu with
          wheels := stand.tu.wheels.write 0 { stand.wheel 0 with missing := some 0 } }).wheel 0).missing = some 0
      ∧ stand.calm := by decide +kernel

/-! ### Hypotheses met: roll stability -/

/-- A copy of group 1's load whose fraction stands on a point of the critical list. -/
def loadedUnit : StabUnit :=
  let copy : LoadCopy := { load := some 600, rated := 2400, quality := .good }
  { stand.su with inputs := { stand.su.inputs with
      ay := some (-100), loads := stand.su.inputs.loads.write 0 copy, low := stand.su.inputs.low.write 1 true } }

theorem test_meets_MarginAndTestChannel :
    stabTableOk site.stability = true
      ∧ (loadedUnit.recomputed site.stability).fraction = 256
      ∧ (loadedUnit.recomputed site.stability).critical = some 420
      ∧ (loadedUnit.recomputed site.stability).derate = 30
      ∧ (loadedUnit.recomputed site.stability).threshold = some 390
      ∧ (loadedUnit.recomputed site.stability).margin = some 290
      ∧ (stand.su.recomputed site.stability).fraction = 1024
      ∧ (stand.su.recomputed StabTable.defaults).margin = none := by decide +kernel

/-- A GOOD record with a value. -/
def goodRecord (v : Int) : ChannelRec :=
  { last := some v, arrival := some 0, state := .good, run := 50, stale := .running 500 }

/-- The part on the move at 30 m/s, two wheel speeds GOOD, the lateral acceleration as given; SU in a state,
settled. -/
def driving (st : StabState) (ay : Int) (u : StabUnit → StabUnit) : State :=
  let inputs : StabInputs :=
    { stand.su.inputs with
      ay := some ay, lateral := .good, vref := 3000, path := .passed, mode := .normal
      configured := (Bank.fill 6 false).write 0 true
      wheel := ((Bank.fill 6 RecState.unknown).write 0 .good).write 1 .good }
  let base : State :=
    { stand with
      si := { stand.si with
        vref := 3000, vrefQuality := .wheel, motion := .moving
        records := (stand.si.records.write 0 (goodRecord 3000)).write 1 (goodRecord 3000) }
      su := u ({ stand.su with state := st, inputs := inputs }.recomputed stand.stabInForce) }
  base.setSu { base.su with demand := Bank.ofFn base.demandOf }

/-- TESTING on channel 1 with its pulse at its end. -/
def pulsing : State :=
  let s := driving .testing 250 fun u => { u with testChannel := some 0, pulseTimer := .running 0 }
  s.setSi { s.si with testChannel := some 0 }

/-- WATCH with the test timer at its end. -/
def watching (ay : Int) : State := driving .watch ay fun u => { u with testTimer := .running 0 }

/-- INTERVENING with the minimum timer at its end. -/
def intervening (ay : Int) : State :=
  driving .intervening ay fun u => { u with level := 150, minTimer := .running 0 }

/-- RELEASING with the release timer at its end. -/
def releasing : State := driving .releasing 100 fun u => { u with level := 150, releaseTimer := .running 0 }

/-- What the clauses share. -/
abbrev settled (s : State) : Prop := s.ready ∧ s.stabSteady ∧ s.stayHolds = true

theorem test_meets_StabilityTimerCommands_pulse :
    settled pulsing ∧ pulsing.marginBelow pulsing.stabInForce.mInt = false ∧ 200 ≤ pulsing.si.vref
      ∧ pulsing.si.motion = .moving ∧ pulsing.su.pulseTimer.due = true ∧ pulsing.su.state = .testing
      ∧ pulsing.su.testChannel = some 0
      ∧ pulsing.marginFrom (pulsing.stabInForce.mWatch + pulsing.stabInForce.hysteresis) = false
      ∧ (pulsing.setSi { pulsing.si with testChannel := none }).vrefNow
          = (pulsing.si.vref, pulsing.si.vrefQuality) := by decide +kernel

theorem test_meets_StabilityTimerCommands_watch :
    settled (watching 150) ∧ (watching 150).marginBelow (watching 150).stabInForce.mTest = false
      ∧ (watching 150).marginFrom
          ((watching 150).stabInForce.mWatch + (watching 150).stabInForce.hysteresis) = false
      ∧ (watching 150).su.testTimer.due = true ∧ (watching 150).su.state = .watch
      ∧ settled (watching 250) ∧ (watching 250).marginBelow (watching 250).stabInForce.mTest = true
      ∧ (watching 250).marginBelow (watching 250).stabInForce.mInt = false
      ∧ (watching 250).innerSide = some .left ∧ (watching 250).testChoice .left = some 0
      ∧ ((watching 250).setSi { (watching 250).si with testChannel := some 0 }).vrefNow
          = ((watching 250).si.vref, (watching 250).si.vrefQuality) := by decide +kernel

theorem test_meets_StabilityTimerCommands_intervention :
    settled (intervening 200) ∧ (intervening 200).su.minTimer.due = true
      ∧ (intervening 200).su.state = .intervening
      ∧ (intervening 200).marginFrom (intervening 200).stabInForce.mWatch = false
      ∧ settled (intervening 150)
      ∧ (intervening 150).marginFrom (intervening 150).stabInForce.mWatch = true
      ∧ (intervening 150).stabInForce.mInt ≤ (intervening 150).stabInForce.mWatch
      ∧ settled releasing ∧ releasing.su.releaseTimer.due = true ∧ releasing.su.state = .releasing
      ∧ releasing.marginBelow releasing.stabInForce.mInt = false
      ∧ releasing.stabInForce.rampDown < releasing.su.level := by decide +kernel

theorem test_meets_MarginAndTestChannel_sides :
    (watching 250).innerSide = some .left ∧ (watching (-250)).innerSide = some .right
      ∧ (watching 250).testChoice .left = some 0 ∧ (watching (-250)).testChoice .right = none := by
  decide +kernel

/-- SU at an event that brings a lateral acceleration. -/
def atSample (s : State) (ay : Int) : State := s.afterTaking (.motionSample (some ay) .good)

/-- A state whose speed no longer meets the gate. -/
def slowing (s : State) : State := s.setSu { s.su with inputs := { s.su.inputs with vref := 0 } }

theorem test_meets_StabilityEvents :
    let quiet := driving .inactive 0 id
    (watching 150).su.unchangedBy (.motionSample (some 151) .good) = false
      ∧ quiet.entryHolds = true ∧ (slowing quiet).entryHolds = false
      ∧ (atSample quiet 370).marginBelow quiet.stabInForce.mInt = true
      ∧ (atSample quiet 200).marginBelow quiet.stabInForce.mTest = false
      ∧ (atSample quiet 200).marginBelow quiet.stabInForce.mWatch = true
      ∧ (atSample (watching 150) 0).marginFrom
          (quiet.stabInForce.mWatch + quiet.stabInForce.hysteresis) = true
      ∧ (watching 250).stayHolds = true ∧ (slowing (watching 250)).stayHolds = false
      ∧ (atSample (watching 250) 250).marginBelow quiet.stabInForce.mTest = true
      ∧ pulsing.stayHolds = true ∧ 0 < pulsing.stabInForce.liftSlip ∧ pulsing.pulseLost = false
      ∧ (intervening 150).stayHolds = true ∧ (intervening 150).su.minTimer ≠ .expired
      ∧ releasing.stayHolds = true ∧ releasing.stabInForce.rampDown < releasing.su.level := by decide +kernel

/-! ### Hypotheses met: notices and status -/

/-- A snapshot of the part standing still. -/
def shot : Snapshot :=
  { time := 0, trigger := .emergency, vref := 0, ay := none, margin := none, fraction := 1024, inEffect := 0,
    link := .active, cause := .input, derate := 0, targets := Bank.fill 6 0 }

/-- A store of snapshots, full, under a mode. -/
def shots (m : SnapMode) : NoticeUnit :=
  { stand.nu with snapshots := List.replicate 4 shot, triggers := 4, mode := m, maskEmergency := true }

theorem test_meets_OccurrenceIsRecorded :
    (shots .keepFirst).triggerOf .emergency = some .emergency ∧ (shots .keepFirst).snapshots.length = 4
      ∧ (shots .keepLatest).snapshots = shot :: List.replicate 3 shot
      ∧ (shots .keepLatest).mode = .keepLatest
      ∧ stand.nu.snapshots.length < 4 ∧ stand.nu.triggerOf .routeMiss = none := by decide +kernel

/-- The FL queue full of what a NOTICE does not displace. -/
def noticeless : State := withQueue .fl (List.replicate 16 (msg 3 kNotice false))

theorem test_meets_NoticeMessages :
    (stand.nu.notice .routeMiss).flag = false ∧ (stand.nu.notice .routeMiss).message = true
      ∧ stand.roomFor .fl 1 ∧ ((started.nu.notice .tableCheckFailed).flag = true)
      ∧ (noticeless.port .fl).on = true ∧ (noticeless.port .fl).queue.length = 16
      ∧ (∀ m ∈ (noticeless.port .fl).queue, m.sending = false → m.hdr.priority ≤ 3)
      ∧ (noticeless.nu.notice .txOverflow).flag = false
      ∧ NoticeKind.routeMiss ≠ .txOverflow := by decide +kernel

/-- The condition of STABILITY_INACTIVE_FAULT is present. -/
def troubled : State :=
  let r := { stand.nu.records.read 23 with present := true }
  stand.setNu { stand.nu with records := stand.nu.records.write 23 r }

theorem test_meets_NoticeClearing :
    stand.takesRequests
      ∧ (troubled.nu.notice .stabilityInactiveFault).present = true
      ∧ NoticeKind.isCondition .stabilityInactiveFault = true ∧ NoticeKind.isCondition .txOverflow = false
      ∧ stand.roomForReply .fl 0x31 1 .done [] ∧ stand.roomForReply .fl 0x33 1 .done []
      ∧ stand.roomFor .fl ((stand.replySegments 0x31 1 .done []).length + 1) := by decide +kernel

/-- The status timers at their end. -/
def statusDue (news : Bool) : State :=
  stand.setSc { stand.sc with
    minTimer := .running 0, periodic := .running 0, pendingNews := news, live := stand.sc.live.write 0 1 }

theorem test_meets_StatusTimerCommands :
    (statusDue false).sc.minTimer.due = true ∧ (statusDue false).sc.pendingNews = false
      ∧ (statusDue true).sc.pendingNews = true ∧ (statusDue true).sc.sending = true
      ∧ (∃ f, ((statusDue true).statusInForce.fields.read f).change = true
          ∧ (statusDue true).content.read f ≠ (statusDue true).sc.lastSent.read f)
      ∧ (statusDue true).roomFor .fl 1 ∧ ((statusDue true).port .fl).queue = []
      ∧ (statusDue true).sc.periodic.due = true := by decide +kernel

/-- R164: a periodic expiry of the moment of an on-change offer is taken second, and places the content
again. -/
theorem test_periodic_expiry_taken_second :
    let s := stand.setSc { stand.sc with periodic := .running 0, live := stand.sc.live.write 0 1 }
    let t := (judgeNews (Work.begin s)).st
    t.sc.lastSent = s.content ∧ t.sc.periodic.due = true
      ∧ (after t .statusPeriodicTimerExpiry).sc.lastSent = s.content
      ∧ (after t .statusPeriodicTimerExpiry).sc.periodic = .running 500
      ∧ (after t .statusPeriodicTimerExpiry).port .fl = t.port .fl := by decide +kernel

theorem test_meets_StatusContentAndNews :
    (∀ f : Fin 12, started.content.read f < 2 ^ [4, 2, 3, 3, 1, 3, 8, 10, 8, 4, 8, 3].getD f.val 0)
      ∧ (statusDue true).isNews = true ∧ stand.isNews = true ∧ State.reset.sc.sending = false
      ∧ (∃ m ∈ (started.port .fl).queue, m.kind = kStatus ∧ m.own = true ∧ m.sending = false)
      ∧ noticeless.content.read 8 = 255 ∧ ((withQueue .fl (List.replicate 16 (msg 2 kNotice false))).port .fl).on = true
      ∧ started.sc.minTimer = .running 50 ∧ mayForwardAhead .flSilence = false := by decide +kernel

/-- R21, R165: a full FL queue whose youngest message of the lowest priority gives way to a STATUS. -/
theorem test_meets_StatusContentAndNews_eviction :
    (noticeless.port .fl).queue = List.replicate 15 (msg 3 kNotice false) ++ msg 3 kNotice false :: []
      ∧ (noticeless.port .fl).queue.length = 16 ∧ (noticeless.port .fl).on = true
      ∧ (∀ m ∈ (noticeless.port .fl).queue, m.sending = true ∨ m.sameClass (statusMsg noticeless) = false)
      ∧ 2 < (msg 3 kNotice false).hdr.priority.toNat
      ∧ (statusDue true).sc.periodic = .running 0 ∧ noticeless.sc.periodic ≠ .running 0
      ∧ (let r := noticeless.setNu (noticeless.nu.setRec .txOverflow
           { noticeless.nu.notice .txOverflow with flag := true })
         (r.nu.notice .txOverflow).flag = true ∧ (r.port .fl).queue = (noticeless.port .fl).queue) := by
  decide +kernel

/-- A STATUS from the trailer in position 3. -/
def rearStatus : Frame := { kind := kStatus, hdr := { hdr 0 0 with origin := 3 }, data := [1, 0, 0, 0, 0, 0, 0, 0] }

/-- A STATUS from an origin. -/
def statusFrom (origin : Nat) : Frame :=
  { rearStatus with hdr := { rearStatus.hdr with origin := BitVec.ofNat 3 origin } }

/-- The part with every bit of the rear mask set, at an own position. -/
def watchful (p : Option Nat) : State :=
  { stand with
    lr := { stand.lr with ownPos := p }
    tables := { stand.tables with status := { stand.tables.status with mask := 0xFFFF } } }

theorem test_meets_RearStatusIsMatched :
    stand.ready ∧ stand.routesTo .rl rearStatus .sc ∧ stand.lr.ownPos = some 2
      ∧ rearStatus.hdr.origin.toNat = 1 + 2 ∧ rearStatus.data.length = 8 ∧ stand.roomFor .fl 4
      ∧ (∃ i, stand.hit .rl rearStatus = some i ∧ (stand.lr.routes.read i).entry.toFL = true)
      ∧ (∀ p ∈ [none, some 2], ∀ o ∈ [2, 3, 4, 5], (watchful p).ready
          ∧ (watchful p).routesTo .rl (statusFrom o) .sc ∧ (statusFrom o).hdr.origin.toNat = o) := by
  decide +kernel

/-- R168 at the edges of own position + 1..4, own position 2: the origins 2 and 5 are not judged, 3 and 4 are;
none is while own position is unknown. -/
theorem test_rear_origins :
    let rear (p : Option Nat) (o : Nat) : List Bool :=
      (after (watchful p) (.statusFromRear (statusFrom o).hdr (statusFrom o).data)).sc.rear.cells
    [2, 3, 4, 5].map (rear (some 2))
        = [[false, false, false], [false, true, false], [false, false, true], [false, false, false]]
      ∧ [2, 3, 4, 5].map (rear none) = List.replicate 4 [false, false, false] := by decide +kernel

/-! ### Hypotheses met: management -/

theorem test_meets_ReadItemReplies :
    stand.takesReads ∧ readItemAt stand 0x060 0 = .undefined ∧ readItemAt stand 0x040 7 = .badIndex
      ∧ readItemAt stand 0x013 0 = .value (some 0) ∧ readItemAt State.reset 0x003 0 = .value none
      ∧ stand.roomForReply .fl 0x01 1 .absent [0, 0, 0, 0, 0] ∧ stand.roomForReply .wb 0x01 1 .badParam []
      ∧ stand.roomForReply .wb 0x01 1 .done [1, 0, 0, 0, 0] := by decide +kernel

/-- One snapshot held. -/
def remembering : State := stand.setNu { stand.nu with snapshots := [shot], triggers := 1 }

theorem test_meets_ReadRecordReplies :
    stand.takesReads ∧ entryRead (.readEntryRoute .fl 1 64) = some (.fl, 1, 1, 64)
      ∧ entryRead (.readEntryWheel .fl 1 25) = some (.fl, 1, 4, 25)
      ∧ entryRead (.readEntryCritical .wb 1 0) = some (.wb, 1, 5, 0)
      ∧ stand.roomForReply .fl 0x04 1 .badParam [] ∧ stand.roomForReply .fl 0x30 1 .badParam []
      ∧ stand.roomForReply .fl 0x04 1 .done (routeBytes (stand.lr.routes.read 63))
      ∧ remembering.nu.snapshots[0]? = some shot
      ∧ stand.nu.snapshots.length ≤ 0
      ∧ stand.roomForReply .fl 0x32 1 .done (snapshotBytes shot ++ [1, 1]) := by decide +kernel

theorem test_meets_StoredItemWrites :
    maint.takesWrites ∧ maint.tables.itemTakes 0x130 900 = some true
      ∧ maint.tables.itemTakes 0x130 600 = some false ∧ maint.tables.itemTakes 0x130 601 = some true
      ∧ maint.tables.itemTakes 0x110 2 = some false ∧ maint.roomForReply .fl 0x02 1 .badParam []
      ∧ itemWrite (.writeTyreSetting .fl 1 .qLow 0 900) = some (.fl, 1, 0x130, 0, 900)
      ∧ readItemAt maint 0x130 0 = .value (some 850)
      ∧ BitVec.ofInt 32 850 = (850 : Word) ∧ BitVec.ofInt 32 850 ≠ (851 : Word)
      ∧ maint.roomForReply .fl 0x03 1 .mismatch (wordBytes 850)
      ∧ stand.takesRequests ∧ stand.me.op = .run ∧ readItemAt stand 0x0FF 0 = .undefined
      ∧ readItemAt stand 0x000 0 ≠ .undefined ∧ readItemAt stand 0x153 0 ≠ .undefined := by decide +kernel

theorem test_meets_RuntimeItemWrites :
    stand.takesRequests ∧ maint.takesRequests ∧ stand.roomForReply .fl 0x02 1 .done []
      ∧ stand.roomForReply .fl 0x02 1 .badParam []
      ∧ maint.valid .notice = true ∧ stand.me.op = .run := by decide +kernel

theorem test_meets_RuntimeItemWrites_swap :
    itemWrite (.writeItem .fl 1 0x220 0 5) = some (.fl, 1, 0x220, 0, 5)
      ∧ itemWrite (.writeSnapshotSetting .fl 1 .mask 0 8) = some (.fl, 1, 0x211, 0, 8) :=
  ⟨rfl, rfl⟩

theorem test_meets_RuntimeItemWrites_reads :
    readItemAt stand 0x220 0 = .value (some 0) ∧ readItemAt stand 0x210 0 = .value (some 0)
      ∧ readItemAt stand 0x211 0 = .value (some 3) ∧ readItemAt stand 0x200 1 = .value (some 1)
      ∧ readItemAt stand 0x201 24 = .value (some 1) ∧ BitVec.ofInt 32 3 ≠ (2 : Word)
      ∧ stand.roomForReply .fl 0x03 1 .done [] ∧ stand.roomForReply .fl 0x03 1 .mismatch [0, 0, 0, 3]
      ∧ stand.roomFor .fl 4 := by decide +kernel

/-- The room that the DONE replies of the taken requests ask for is there. -/
theorem test_meets_reply_rooms :
    maint.roomFor .fl ((maint.replySegments 0x02 1 .done []).length + 11)
      ∧ maint.roomFor .wb ((maint.replySegments 0x11 1 .done []).length + 11)
      ∧ stand.roomFor .fl ((stand.replySegments 0x10 1 .done []).length + 11)
      ∧ (maint.replySegments 0x02 1 .done []).length = 1 := by decide +kernel

theorem test_meets_GroupTableWrites :
    maint.takesWrites ∧ groupRecOk (site.groups.records.read 0) = true
      ∧ curveOk [(40, 450), (180, 1300)] = true ∧ curveOk (natPoints [(40, 450)]) = false
      ∧ criticalOk [(256, 420), (1024, 300)] = true ∧ criticalOk (natPoints [(256, 420)]) = false
      ∧ (99 : Half).toNat < 100 ∧ 6553 < (6554 : Half).toNat ∧ 3 < (4 : Byte).toNat
      ∧ maint.roomForReply .fl 0x05 1 .badParam [] ∧ maint.roomForReply .fl 0x06 1 .badParam [] := by
  decide +kernel

theorem test_meets_StatusAndNoticeEntryWrites :
    maint.takesWrites ∧ maint.calm ∧ overrideOk 0 0 = true ∧ maint.valid .notice = true
      ∧ started.valid .notice = false ∧ 12 < (13 : Byte).toNat ∧ 1 < (2 : Byte).toNat
      ∧ overrideOk 0 15 = true ∧ overrideOk 0 16 = false := by decide +kernel

theorem test_meets_WheelTableWrites :
    maint.takesWrites ∧ maint.calm ∧ wheelRecOk (maint.wheelRec 0) = true
      ∧ (∀ q : Fin 24, q ≠ 0 → (maint.wheelRec q).sensorId ≠ (maint.wheelRec 0).sensorId)
      ∧ wheelRecOk { maint.wheelRec 0 with nominal := 900 } = true
      ∧ { maint.wheelRec 0 with nominal := 900 } ≠ maint.wheelRec 0
      ∧ (maint.wheelRec 0).sensorId = some 7 ∧ listening.tu.learn.position = some 0
      ∧ 24 < (25 : Byte).toNat ∧ (199 : Half).toNat < 200
      ∧ maint.roomForReply .fl 0x05 1 .conflict [] := by decide +kernel

theorem test_meets_RefusedRequests :
    heldRequest (.storeTables .fl 1) = some (.fl, 0x12, 1) ∧ needsMaintenance (.storeTables .fl 1) = true
      ∧ stand.ready ∧ stand.me.op = .run ∧ stand.me.slot = none
      ∧ stand.roomForReply .fl 0x12 1 .notInMaintenance []
      ∧ (awaited stand).me.slot = some checkOp
      ∧ (awaited stand).roomForReply .fl 0x12 1 .busy [2] := by
  decide +kernel

/-- In maintenance, with no usable group left. -/
def broken : State := maint.setTables { maint.tables with groups := GroupsTable.defaults }

theorem test_meets_MaintenanceEntryAndExit :
    stand.takesRequests ∧ stand.me.op = .run ∧ stand.si.motion = .stationary ∧ stand.active .park = true
      ∧ stand.du.emergency = false ∧ stand.slow ∧ maint.takesWrites ∧ maint.crossMask = 0
      ∧ broken.takesWrites ∧ broken.crossMask ≠ 0 ∧ maint.takesRequests ∧ maint.me.op ≠ .run
      ∧ maint.roomForReply .fl 0x10 1 .notStationary [] ∧ broken.roomForReply .fl 0x11 1 .badTables [2] := by
  decide +kernel

/-- In maintenance, a PARK sample due after a low level, and a GOOD first wheel-speed record. -/
def leaving : State :=
  let si := broken.si.setInput .park { broken.si.park with previous := some .low, sampler := .running 0 }
  broken.setSi { si with records := si.records.write 0 (goodRecord 100) }

theorem test_meets_CrossChecksAndForcedExits :
    leaving.ready ∧ leaving.me.op = .maintenance ∧ leaving.canAccept .park .low = true
      ∧ leaving.active .park = true ∧ leaving.crossMask = 2
      ∧ leaving.routesTo .wb { kind := kSpeed, hdr := hdr 0 1, data := sampleData 200 } .si
      ∧ readSample kSpeed (sampleData 200) = some (true, 200)
      ∧ (leaving.record (.speed 0)).state = .good ∧ leaving.si.testChannel ≠ some 0
      ∧ leaving.si.motion ≠ .moving ∧ stand.me.op ≠ .maintenance := by decide +kernel

/-- R186: a speed of 2 m/s takes the part out of maintenance. -/
theorem test_motion_forces_exit :
    (after leaving (.speedSample (hdr 0 1) (sampleData 200))).me.op = .run
      ∧ (after leaving (.speedSample (hdr 0 1) (sampleData 199))).me.op = .maintenance := by decide +kernel

theorem test_meets_StoreCommands :
    maint.takesWrites ∧ maint.crossMask = 0 ∧ broken.takesWrites ∧ broken.crossMask ≠ 0
      ∧ maint.roomForReply .fl 0x13 1 .done [] ∧ broken.roomForReply .fl 0x12 1 .badTables [2]
      ∧ (storing 0).ready ∧ (storing 0).ts.writing = some (0 : Fin 7).castSucc
      ∧ (storing 6).ts.writing = some (6 : Fin 7).castSucc ∧ (storing 7).ts.writing = some 7
      ∧ (storing 7).crossMask = 0 ∧ (storing 7).calm ∧ (storing 7).valid .filters = true
      ∧ (storing 7).ts.limit.due = true := by decide +kernel

/-- A group that asks for item 0x001, whole, with its CRC right or one bit off. -/
def itemGroup (off : BitVec 16) : List Byte :=
  let b : List Byte := [8, 0x01, 7, 0x00, 0x01, 0x00]
  b ++ halfBytes (crc16 b ^^^ off)

/-- The frame of a segment. -/
def segment (b : Byte) (body : List Byte) : Frame :=
  { kind := kManageRequest, hdr := hdr 0 0, data := b :: body }

/-- Seven bytes of that group held on WB, the assembly time run out. -/
def assembling : State :=
  ((Work.begin stand).setBuffer .wb
    (some { bytes := (itemGroup 0).take 7, next := 1, timer := .running 0 })).st

theorem test_meets_GroupsAreAssembled :
    stand.me.op ≠ .start ∧ stand.ready ∧ stand.receives .wb = true
      ∧ (∃ i, stand.hit .wb (segment 0 ((itemGroup 0).take 7)) = some i
          ∧ stand.hit .wb (segment 0x11 ((itemGroup 0).drop 7)) = some i
          ∧ (stand.lr.routes.read i).entry.consumer = .me ∧ (stand.lr.routes.read i).entry.toFL = false
          ∧ (stand.lr.routes.read i).entry.toRL = false)
      ∧ ((itemGroup 0).take 7).length = 7 ∧ (((itemGroup 0).take 7).getD 0 0).toNat = 8
      ∧ assembling.me.buffer .wb = some { bytes := (itemGroup 0).take 7, next := 1, timer := .running 0 }
      ∧ (itemGroup 0).take 7 ++ (itemGroup 0).drop 7 = itemGroup 0 ∧ (itemGroup 0).length = 8
      ∧ halfBytes (crc16 (((itemGroup 0).take 8).take 6)) = ((itemGroup 0).take 8).drop 6
      ∧ parseRequest 0x01 ((((itemGroup 0).take 8).take 6).drop 3) = .ok (.readItem 0x001 0)
      ∧ halfBytes (crc16 (((itemGroup 1).take 8).take 6)) ≠ ((itemGroup 1).take 8).drop 6
      ∧ (0x07 : Byte).toNat ∉ [0x01, 0x02, 0x03, 0x04, 0x05, 0x06, 0x10, 0x11] ∧ stand.me.slot = none
      ∧ assembling.roomForReply .wb 0x01 7 .badGroup [5] ∧ assembling.roomForReply .wb 0x01 7 .badGroup [4] := by
  decide +kernel

end Sys2Proof.Tests
end

section
/-! The relation table of R9: one equation per row of the table, and the key a frame is looked up by. -/

namespace Sys2Proof.Proofs

open Sys2Proof Sys2Proof.Machine

/-- R9, WB: a frame from the own wagon is SELF, whatever its target. -/
@[simp] theorem relationOf_wb (pos : Option Nat) (target : BitVec 3) :
    relationOf .wb pos target = .self := rfl

/-- R9, target 0: a frame of the chain is for ALL, also while own position is unknown. -/
theorem relationOf_zero_target {p : Port} (hp : p ≠ .wb) (pos : Option Nat) :
    relationOf p pos 0 = .all := by
  cases p with
  | fl => rfl
  | rl => rfl
  | wb => exact absurd rfl hp

/-- R9, a wagon's target with own position known: it decides by its place along the chain. -/
theorem relationOf_known_position {p : Port} (hp : p ≠ .wb) (n : Nat) {target : BitVec 3}
    (ht : target ≠ 0) :
    relationOf p (some n) target =
      if target.toNat = n then .self else if n < target.toNat then .behind else .ahead := by
  cases p with
  | fl => exact if_neg ht
  | rl => exact if_neg ht
  | wb => exact absurd rfl hp

/-- R9, a wagon's target with own position unknown. -/
theorem relationOf_unknown_position {p : Port} (hp : p ≠ .wb) {target : BitVec 3}
    (ht : target ≠ 0) : relationOf p none target = .unplaced := by
  cases p with
  | fl => exact if_neg ht
  | rl => exact if_neg ht
  | wb => exact absurd rfl hp

/-- R10: the lookup key holds the relation judged against own position as it stands. -/
theorem hit_eq_lookupRoute (s : State) (p : Port) (f : Frame) :
    s.hit p f = lookupRoute s.lr.routes
      { port := p, kind := f.kind, relation := relationOf p s.lr.ownPos f.hdr.target } := rfl

/-- Settles O16, from the rows of R9; the codes of relations and ports are read off their lists. -/
theorem relationTable : Obligations.RelationTable :=
  ⟨relationOf_wb,
   fun _ pos hp => relationOf_zero_target hp pos,
   fun _ n _ hp ht => relationOf_known_position hp n ht,
   fun _ _ hp ht => relationOf_unknown_position hp ht,
   rfl, rfl,
   hit_eq_lookupRoute⟩

end Sys2Proof.Proofs
end

section
/-! Rounded quotients: the bounds that make a quotient the rounded one, and a rounded share of a whole. -/

namespace Sys2Proof.Proofs

open Sys2Proof Sys2Proof.Machine

/-- The quotient rounded half up is the one whose half-open unit interval holds the exact quotient. -/
theorem divHalfUp_bounds (a : Nat) {b : Nat} (hb : 0 < b) :
    (2 * divHalfUp a b) * b ≤ 2 * a + b ∧ 2 * a + b < (2 * divHalfUp a b + 2) * b := by
  have below := Nat.div_mul_le_self (2 * a + b) (2 * b)
  have above := Nat.lt_mul_of_div_lt (Nat.lt_succ_self ((2 * a + b) / (2 * b))) (by omega : 0 < 2 * b)
  unfold divHalfUp
  constructor
  · linarith
  · rw [Nat.succ_eq_add_one] at above
    linarith

theorem divHalfUp_mono {a a' : Nat} (h : a ≤ a') (b : Nat) : divHalfUp a b ≤ divHalfUp a' b :=
  Nat.div_le_div_right (by omega)

/-- A part of `span` by whole units of it rounds to no more than the same part of the height. -/
theorem divHalfUp_share_le (height : Nat) {part span : Nat} (h : part ≤ span) :
    divHalfUp (height * part) span ≤ height := by
  rcases Nat.eq_zero_or_pos span with rfl | hpos
  · simp [divHalfUp]
  · have whole : height * part ≤ height * span := Nat.mul_le_mul_left _ h
    have below : 2 * (height * part) + span < (2 * span) * (height + 1) := by linarith
    exact Nat.le_of_lt_succ (Nat.div_lt_of_lt_mul below)

/-- Nothing of the height is reached at the foot of a slope. -/
@[simp] theorem divHalfUp_zero (b : Nat) : divHalfUp 0 b = 0 := by
  rcases Nat.eq_zero_or_pos b with rfl | hb
  · rfl
  · exact Nat.div_eq_of_lt (by omega)

end Sys2Proof.Proofs
end

section
/-! The load curve (R70): its value on each part of the curve, and that it never decreases. -/

namespace Sys2Proof.Proofs

open Sys2Proof Sys2Proof.Machine

@[simp] theorem firstsIncrease_cons_cons (p q : Nat × Nat) (z : List (Nat × Nat)) :
    firstsIncrease (p :: q :: z) = true ↔ p.1 < q.1 ∧ firstsIncrease (q :: z) = true := by
  simp [firstsIncrease]

@[simp] theorem secondsRise_cons_cons (p q : Nat × Nat) (z : List (Nat × Nat)) :
    secondsRise (p :: q :: z) = true ↔ p.2 ≤ q.2 ∧ secondsRise (q :: z) = true := by
  simp [secondsRise]

/-- What the checks of R63 give about the points of a curve. -/
theorem curveOk_points {ps : List (Nat × Nat)} (h : curveOk ps = true) :
    firstsIncrease ps = true ∧ secondsRise ps = true ∧ ∀ p ∈ ps, p.2 ≤ 6553 := by
  simp only [curveOk, Bool.and_eq_true, List.all_eq_true, within, decide_eq_true_eq] at h
  obtain ⟨⟨⟨-, ranges⟩, firsts⟩, seconds⟩ := h
  exact ⟨firsts, seconds, fun p hp => (ranges p hp).2.2⟩

/-- R70: up to the first point the load is that point's. -/
theorem loadAt_le_first {b : Nat} {p : Nat × Nat} (z : List (Nat × Nat)) (h : b ≤ p.1) :
    loadAt b (p :: z) = p.2 := by
  cases z with
  | nil => rfl
  | cons q z => simp [loadAt, h]

/-- R70: below the second point the load is on the first segment, whose slope is flat before its foot. -/
theorem loadAt_of_lt_second {b : Nat} {p q : Nat × Nat} (z : List (Nat × Nat)) (h : b < q.1) :
    loadAt b (p :: q :: z) = p.2 + divHalfUp ((q.2 - p.2) * (b - p.1)) (q.1 - p.1) := by
  by_cases hb : b ≤ p.1
  · simp [loadAt, hb, Nat.sub_eq_zero_of_le hb]
  · simp [loadAt, hb, h]

/-- R70: from the second point on, the first point has no say. -/
theorem loadAt_of_second_le {b : Nat} {p q : Nat × Nat} (z : List (Nat × Nat)) (hpq : p.1 < q.1)
    (h : q.1 ≤ b) : loadAt b (p :: q :: z) = loadAt b (q :: z) := by
  rw [loadAt, if_neg (by omega), if_neg (by omega)]

theorem first_le_of_firstsIncrease {p : Nat × Nat} {z : List (Nat × Nat)}
    (h : firstsIncrease (p :: z) = true) : ∀ x ∈ p :: z, p.1 ≤ x.1 := by
  induction z generalizing p with
  | nil => simp
  | cons q z ih =>
    obtain ⟨hpq, hz⟩ := (firstsIncrease_cons_cons p q z).1 h
    intro x hx
    rcases List.mem_cons.1 hx with rfl | hx
    · exact le_rfl
    · exact hpq.le.trans (ih hz x hx)

/-- Only the points from the last one at or below the pressure decide the load. -/
theorem loadAt_append {b : Nat} {a : List (Nat × Nat)} {p : Nat × Nat} {z : List (Nat × Nat)}
    (h : firstsIncrease (a ++ p :: z) = true) (hb : p.1 ≤ b) :
    loadAt b (a ++ p :: z) = loadAt b (p :: z) := by
  induction a with
  | nil => rfl
  | cons x a ih =>
    obtain ⟨y, t, hyt⟩ := List.exists_cons_of_ne_nil (List.append_ne_nil_of_right_ne_nil a (by simp) :
      a ++ p :: z ≠ [])
    have hp : p ∈ y :: t := hyt ▸ by simp
    rw [List.cons_append, hyt] at h ⊢
    obtain ⟨hxy, ht⟩ := (firstsIncrease_cons_cons x y t).1 h
    have hy : y.1 ≤ b := (first_le_of_firstsIncrease ht p hp).trans hb
    rw [loadAt_of_second_le t hxy hy, ← hyt, ih (hyt ▸ ht)]

/-- R70: from the last point on the load is that point's. -/
theorem loadAt_last_le {b : Nat} {ps : List (Nat × Nat)} (h : firstsIncrease ps = true) (hne : ps ≠ [])
    (hb : (ps.getLast hne).1 ≤ b) : loadAt b ps = (ps.getLast hne).2 := by
  have points := List.dropLast_concat_getLast hne
  calc loadAt b ps = loadAt b (ps.dropLast ++ [ps.getLast hne]) := by rw [points]
    _ = loadAt b [ps.getLast hne] := loadAt_append (points.symm ▸ h) hb
    _ = (ps.getLast hne).2 := rfl

/-- R70: at a point the load is the point's. -/
theorem loadAt_point {ps : List (Nat × Nat)} (h : firstsIncrease ps = true) {p : Nat × Nat}
    (hp : p ∈ ps) : loadAt p.1 ps = p.2 := by
  obtain ⟨a, z, rfl⟩ := List.append_of_mem hp
  rw [loadAt_append h le_rfl, loadAt_le_first z le_rfl]

/-- R70: the load never decreases along the curve. -/
theorem loadAt_mono {ps : List (Nat × Nat)} (hf : firstsIncrease ps = true) (hs : secondsRise ps = true)
    {b b' : Nat} (h : b ≤ b') : loadAt b ps ≤ loadAt b' ps := by
  induction ps generalizing b with
  | nil => exact le_rfl
  | cons p t ih =>
    cases t with
    | nil => exact le_rfl
    | cons q z =>
      obtain ⟨hpq, hf⟩ := (firstsIncrease_cons_cons p q z).1 hf
      obtain ⟨hrise, hs⟩ := (secondsRise_cons_cons p q z).1 hs
      rcases Nat.lt_or_ge b' q.1 with hb' | hb'
      · rw [loadAt_of_lt_second z hb', loadAt_of_lt_second z (h.trans_lt hb')]
        exact Nat.add_le_add_left
          (divHalfUp_mono (Nat.mul_le_mul_left _ (Nat.sub_le_sub_right h _)) _) _
      · rw [loadAt_of_second_le z hpq hb']
        rcases Nat.lt_or_ge b q.1 with hb | hb
        · have share := divHalfUp_share_le (q.2 - p.2) (Nat.sub_le_sub_right hb.le p.1)
          calc loadAt b (p :: q :: z)
              = p.2 + divHalfUp ((q.2 - p.2) * (b - p.1)) (q.1 - p.1) := loadAt_of_lt_second z hb
            _ ≤ q.2 := by omega
            _ = loadAt q.1 (q :: z) := (loadAt_le_first z le_rfl).symm
            _ ≤ loadAt b' (q :: z) := ih hf hs hb'
        · rw [loadAt_of_second_le z hpq hb]
          exact ih hf hs h

/-- R70: the load is at least that of the first point. -/
theorem first_le_loadAt {p : Nat × Nat} {z : List (Nat × Nat)} (hf : firstsIncrease (p :: z) = true)
    (hs : secondsRise (p :: z) = true) (b : Nat) : p.2 ≤ loadAt b (p :: z) :=
  calc p.2 = loadAt (min b p.1) (p :: z) := (loadAt_le_first z (min_le_right ..)).symm
    _ ≤ loadAt b (p :: z) := loadAt_mono hf hs (min_le_left ..)

/-- R70: the load is at most that of the last point. -/
theorem loadAt_le_last {ps : List (Nat × Nat)} (hf : firstsIncrease ps = true)
    (hs : secondsRise ps = true) (hne : ps ≠ []) (b : Nat) : loadAt b ps ≤ (ps.getLast hne).2 :=
  calc loadAt b ps ≤ loadAt (max b (ps.getLast hne).1) ps := loadAt_mono hf hs (le_max_left ..)
    _ = (ps.getLast hne).2 := loadAt_last_le hf hne (le_max_right ..)

theorem loadAt_le_of_curveOk {ps : List (Nat × Nat)} (h : curveOk ps = true) (hne : ps ≠ []) (b : Nat) :
    loadAt b ps ≤ 6553 := by
  obtain ⟨firsts, seconds, ranges⟩ := curveOk_points h
  exact (loadAt_le_last firsts seconds hne b).trans (ranges _ (List.getLast_mem hne))

/-- R70: on a segment the load is the rounded straight line between its points. -/
theorem loadAt_segment {b : Nat} {a z : List (Nat × Nat)} {p q : Nat × Nat}
    (h : firstsIncrease (a ++ p :: q :: z) = true) (hp : p.1 ≤ b) (hq : b < q.1) :
    loadAt b (a ++ p :: q :: z) = p.2 + divHalfUp ((q.2 - p.2) * (b - p.1)) (q.1 - p.1) := by
  rw [loadAt_append h hp, loadAt_of_lt_second z hq]

end Sys2Proof.Proofs
end

section
/-! The ratio line (R73), the service output (R74) and the load fraction (R71). -/

namespace Sys2Proof.Proofs

open Sys2Proof Sys2Proof.Machine

/-- The ranges of R62 that LU's computation leans on. -/
theorem groupRecOk_ranges {r : GroupRec} (h : groupRecOk r = true) :
    100 ≤ r.rated ∧ r.emptyKnee < r.ladenKnee ∧ r.emptyRatio ≤ 1024 := by
  simp only [groupRecOk, within, Bool.and_eq_true, decide_eq_true_eq] at h
  obtain ⟨⟨⟨⟨⟨⟨rated, -⟩, -⟩, ⟨knees, -⟩⟩, ⟨-, ratio⟩⟩, -⟩, -⟩ := h
  exact ⟨rated, knees, ratio⟩

theorem ratioOf_empty {r : GroupRec} {f : Nat} (h : f ≤ r.emptyKnee) : ratioOf r f = r.emptyRatio :=
  if_pos h

theorem ratioOf_laden {r : GroupRec} (hr : r.emptyKnee < r.ladenKnee) {f : Nat} (h : r.ladenKnee ≤ f) :
    ratioOf r f = 1024 := by
  rw [ratioOf, if_neg (by omega), if_pos h]

/-- R73: below the laden knee the ratio is on the line, which is flat up to the empty knee. -/
theorem ratioOf_of_lt_laden {r : GroupRec} {f : Nat} (h : f < r.ladenKnee) :
    ratioOf r f = r.emptyRatio
      + divHalfUp ((1024 - r.emptyRatio) * (f - r.emptyKnee)) (r.ladenKnee - r.emptyKnee) := by
  by_cases hf : f ≤ r.emptyKnee
  · simp [ratioOf, hf, Nat.sub_eq_zero_of_le hf]
  · simp [ratioOf, hf, h]

/-- R73: the ratio lies within R_e..1024. -/
theorem ratioOf_mem_range {r : GroupRec} (hr : groupRecOk r = true) (f : Nat) :
    r.emptyRatio ≤ ratioOf r f ∧ ratioOf r f ≤ 1024 := by
  obtain ⟨-, knees, ratio⟩ := groupRecOk_ranges hr
  rcases Nat.lt_or_ge f r.ladenKnee with hf | hf
  · have share := divHalfUp_share_le (1024 - r.emptyRatio) (Nat.sub_le_sub_right hf.le r.emptyKnee)
    rw [ratioOf_of_lt_laden hf]
    omega
  · rw [ratioOf_laden knees hf]
    exact ⟨ratio, le_rfl⟩

/-- R73: the ratio never falls as the fraction rises. -/
theorem ratioOf_mono {r : GroupRec} (hr : groupRecOk r = true) {f f' : Nat} (h : f ≤ f') :
    ratioOf r f ≤ ratioOf r f' := by
  obtain ⟨-, knees, -⟩ := groupRecOk_ranges hr
  rcases Nat.lt_or_ge f' r.ladenKnee with hf' | hf'
  · rw [ratioOf_of_lt_laden hf', ratioOf_of_lt_laden (h.trans_lt hf')]
    exact Nat.add_le_add_left (divHalfUp_mono (Nat.mul_le_mul_left _ (Nat.sub_le_sub_right h _)) _) _
  · rw [ratioOf_laden knees hf']
    exact (ratioOf_mem_range hr f).2

/-- R74: up to P_th the service output is the demand. -/
theorem serviceOf_of_le {d threshold : Nat} (ratio : Nat) (h : d ≤ threshold) :
    serviceOf d threshold ratio = d := if_pos h

/-- R74: above P_th the service output is P_th and the rounded share of the rest. -/
theorem serviceOf_of_lt {d threshold : Nat} (ratio : Nat) (h : threshold < d) :
    serviceOf d threshold ratio = threshold + divHalfUp ((d - threshold) * ratio) 1024 :=
  if_neg (by omega)

/-- R74: a ratio of at most 1 keeps the service output within the demand. -/
theorem serviceOf_le (d threshold : Nat) {ratio : Nat} (hr : ratio ≤ 1024) :
    serviceOf d threshold ratio ≤ d := by
  rcases Nat.lt_or_ge threshold d with hd | hd
  · have share := divHalfUp_share_le (d - threshold) hr
    rw [serviceOf_of_lt ratio hd]
    omega
  · exact (serviceOf_of_le ratio hd).le

/-- R71: a fraction of at most 1024 is the floor of the quotient. -/
theorem fractionOf_floor {load rated : Nat} (hr : 0 < rated) (h : load * 1024 < 1025 * rated) :
    fractionOf load rated * rated ≤ load * 1024 ∧ load * 1024 < (fractionOf load rated + 1) * rated := by
  have small : load * 1024 / rated < 1025 := (Nat.div_lt_iff_lt_mul hr).2 h
  have floor : fractionOf load rated = load * 1024 / rated := min_eq_left (Nat.le_of_lt_succ small)
  rw [floor]
  exact ⟨Nat.div_mul_le_self .., Nat.lt_mul_of_div_lt (Nat.lt_succ_self _) hr⟩

/-- R71: from the rated load on the fraction is 1024. -/
theorem fractionOf_full {load rated : Nat} (hr : 0 < rated) (h : rated ≤ load) :
    fractionOf load rated = 1024 :=
  min_eq_right ((Nat.le_div_iff_mul_le hr).2 (by omega))

end Sys2Proof.Proofs
end

section
/-! The computation of a group: the records in force, the fallback cause (R68), and what each field is
under GOOD and under FALLBACK quality. -/

namespace Sys2Proof.Proofs

open Sys2Proof Sys2Proof.Machine

/-- The GROUPS content in force passes its checks, stored or default. -/
theorem groupsInForce_ok {s : State} (h : s.tables.inRange = true) :
    groupsTableOk s.groupsInForce = true := by
  simp only [Tables.inRange, Bool.and_eq_true] at h
  obtain ⟨⟨⟨groups, -⟩, -⟩, -⟩ := h
  unfold State.groupsInForce
  split
  · exact groups
  · decide

/-- With the tables in range, LU computes from a record, a curve and an R_fb in range. -/
theorem groupTables_ok {s : State} (h : s.tables.inRange = true) (g : Fin 3) :
    groupRecOk (s.groupRec g) = true ∧ curveOk (s.curve g) = true
      ∧ s.groupsInForce.fallbackRatio ≤ 1024 := by
  have ok := groupsInForce_ok h
  simp only [groupsTableOk, fallbackRatioOk, within, Bool.and_eq_true, decide_eq_true_eq,
    Bank.all_iff] at ok
  obtain ⟨⟨⟨records, curves⟩, ⟨-, ratio⟩⟩, -⟩ := ok
  exact ⟨records g, curves g, ratio⟩

section cause

variable {s : State} {g : Fin 3}

theorem loadCause_of_invalid (h : s.valid .groups = false) : s.loadCause g = .sectionInvalid := by
  simp [State.loadCause, h]

theorem loadCause_of_no_curve (hv : s.valid .groups = true) (hc : s.curve g = []) :
    s.loadCause g = .noCurve := by
  simp [State.loadCause, hv, hc]

theorem loadCause_of_unknown (hv : s.valid .groups = true) (hc : s.curve g ≠ [])
    (hx : (s.record (.bellows g)).state = .unknown) : s.loadCause g = .sensorUnknown := by
  simp [State.loadCause, hv, hc, hx]

theorem loadCause_of_suspect (hv : s.valid .groups = true) (hc : s.curve g ≠ [])
    (hx : (s.record (.bellows g)).state = .suspect) : s.loadCause g = .sensorSuspect := by
  simp [State.loadCause, hv, hc, hx]

theorem loadCause_of_good (hv : s.valid .groups = true) (hc : s.curve g ≠ [])
    (hx : (s.record (.bellows g)).state = .good) :
    s.loadCause g = if (s.lu.read g).bellows = none then .sensorSuspect else .noCause := by
  simp [State.loadCause, hv, hc, hx]

/-- R68: no cause is left only where a curve is stored and a GOOD sensor has given a pressure. -/
theorem curve_and_bellows_of_noCause (h : s.loadCause g = .noCause) :
    s.curve g ≠ [] ∧ ∃ b, (s.lu.read g).bellows = some b := by
  cases hv : s.valid .groups with
  | false => rw [loadCause_of_invalid hv] at h; cases h
  | true =>
    by_cases hc : s.curve g = []
    · rw [loadCause_of_no_curve hv hc] at h; cases h
    · refine ⟨hc, ?_⟩
      cases hx : (s.record (.bellows g)).state with
      | unknown => rw [loadCause_of_unknown hv hc hx] at h; cases h
      | suspect => rw [loadCause_of_suspect hv hc hx] at h; cases h
      | good =>
        rw [loadCause_of_good hv hc hx] at h
        cases hb : (s.lu.read g).bellows with
        | none => simp [hb] at h
        | some b => exact ⟨b, rfl⟩

end cause

section fields

variable {s : State} {g : Fin 3}

@[simp] theorem computed_cause (s : State) (g : Fin 3) : (s.computed g).cause = s.loadCause g := rfl

@[simp] theorem computed_quality_eq_good : (s.computed g).quality = .good ↔ s.loadCause g = .noCause := by
  by_cases h : s.loadCause g = .noCause <;> simp [State.computed, h]

/-- R70, R71: a group of GOOD quality reads its load from its curve, and its fraction from its load. -/
theorem computed_load_of_good (h : (s.computed g).quality = .good) :
    ∃ b, s.curve g ≠ [] ∧ (s.lu.read g).bellows = some b
      ∧ (s.computed g).load = some (loadAt b (s.curve g))
      ∧ (s.computed g).fraction = some (fractionOf (loadAt b (s.curve g)) (s.groupRec g).rated) := by
  have noCause := computed_quality_eq_good.1 h
  obtain ⟨hc, b, hb⟩ := curve_and_bellows_of_noCause noCause
  exact ⟨b, hc, hb, by simp [State.computed, noCause, hb], by simp [State.computed, noCause, hb]⟩

theorem computed_fraction_of_fallback (h : (s.computed g).quality = .fallback) :
    (s.computed g).fraction = none := by
  have cause : s.loadCause g ≠ .noCause := fun e => by simp [computed_quality_eq_good.2 e] at h
  simp [State.computed, cause]

/-- R71: any fraction of a computed group is a load's, and so at most 1024. -/
theorem computed_fraction_le {f : Nat} (h : (s.computed g).fraction = some f) : f ≤ 1024 := by
  obtain ⟨l, -, rfl⟩ := Option.map_eq_some_iff.1 h
  exact min_le_right ..

/-- R73 line 1: in maintenance the ratio is 1. -/
theorem computed_ratio_of_maintenance (h : s.du.mode = .maintenance) : (s.computed g).ratio = 1024 := by
  simp [State.computed, h]

/-- R73 line 2: without a fraction the ratio is R_fb. -/
theorem computed_ratio_of_fallback (hm : s.du.mode ≠ .maintenance)
    (h : (s.computed g).quality = .fallback) : (s.computed g).ratio = s.groupsInForce.fallbackRatio := by
  have noFraction := computed_fraction_of_fallback h
  simp only [State.computed] at noFraction ⊢
  rw [if_neg hm, noFraction]

/-- R73 lines 3 to 5: under GOOD quality the ratio is on the ratio line. -/
theorem computed_ratio_of_good (hm : s.du.mode ≠ .maintenance) (h : (s.computed g).quality = .good) :
    ∃ f, (s.computed g).ratio = ratioOf (s.groupRec g) f := by
  obtain ⟨b, -, -, -, fraction⟩ := computed_load_of_good h
  refine ⟨fractionOf (loadAt b (s.curve g)) (s.groupRec g).rated, ?_⟩
  simp only [State.computed] at fraction ⊢
  rw [if_neg hm, fraction]

theorem computed_ratio_le (ht : s.tables.inRange = true) (g : Fin 3) : (s.computed g).ratio ≤ 1024 := by
  obtain ⟨record, -, fallback⟩ := groupTables_ok ht g
  by_cases hm : s.du.mode = .maintenance
  · exact (computed_ratio_of_maintenance hm).le
  · cases hq : (s.computed g).quality with
    | fallback => exact (computed_ratio_of_fallback hm hq).le.trans fallback
    | good =>
      obtain ⟨f, ratio⟩ := computed_ratio_of_good hm hq
      exact ratio ▸ (ratioOf_mem_range record f).2

theorem computed_service (s : State) (g : Fin 3) : (s.computed g).service =
    serviceOf s.du.inEffect (s.groupRec g).threshold (s.computed g).ratio := rfl

/-- R72: a group is overloaded when it has a load above its rated load. -/
theorem computed_overload_iff : (s.computed g).overload = true ↔
    ∃ l, (s.computed g).load = some l ∧ (s.groupRec g).rated < l := by
  by_cases h : s.loadCause g = .noCause <;> simp [State.computed, h]

end fields

end Sys2Proof.Proofs
end

section
/-! The load law, from the curve, the ratio line, the service output and the fields of a computed group. -/

namespace Sys2Proof.Proofs

open Sys2Proof Sys2Proof.Machine

/-- R70 over the list of points, in the terms of the obligation: the ends of a nonempty list are those that
`head!` and `getLast!` read. -/
theorem loadCurve_law {ps : List (Nat × Nat)} (ok : curveOk ps = true) (hne : ps ≠ []) :
    (∀ b, b ≤ (ps.head!).1 → loadAt b ps = (ps.head!).2) ∧
    (∀ b, (ps.getLast!).1 ≤ b → loadAt b ps = (ps.getLast!).2) ∧
    (∀ a p q z b, ps = a ++ p :: q :: z → p.1 ≤ b → b < q.1 →
      let product := (q.2 - p.2) * (b - p.1)
      let span := q.1 - p.1
      ∃ k, loadAt b ps = p.2 + k
        ∧ (2 * k) * span ≤ 2 * product + span ∧ 2 * product + span < (2 * k + 2) * span) ∧
    (∀ b b', b ≤ b' → loadAt b ps ≤ loadAt b' ps) ∧
    (∀ p ∈ ps, loadAt p.1 ps = p.2) ∧
    (∀ b, (ps.head!).2 ≤ loadAt b ps ∧ loadAt b ps ≤ (ps.getLast!).2 ∧ loadAt b ps ≤ 6553) := by
  obtain ⟨firsts, seconds, -⟩ := curveOk_points ok
  have last : ps.getLast! = ps.getLast hne := by
    rw [List.getLast!_eq_getLast?_getD, List.getLast?_eq_getLast_of_ne_nil hne, Option.getD_some]
  rw [last]
  refine ⟨?below, fun b => loadAt_last_le firsts hne, ?segment, fun b b' => loadAt_mono firsts seconds,
    fun p => loadAt_point firsts, fun b => ⟨?first, loadAt_le_last firsts seconds hne b,
      loadAt_le_of_curveOk ok hne b⟩⟩
  case below =>
    obtain ⟨p, z, rfl⟩ := List.exists_cons_of_ne_nil hne
    exact fun b => loadAt_le_first z
  case segment =>
    rintro a p q z b rfl hp hq
    exact ⟨_, loadAt_segment firsts hp hq, divHalfUp_bounds _ (by omega)⟩
  case first =>
    obtain ⟨p, z, rfl⟩ := List.exists_cons_of_ne_nil hne
    exact first_le_loadAt firsts seconds b

/-- R71: the fraction of a group of GOOD quality, with the tables in range. -/
theorem computed_fraction_law {s : State} {g : Fin 3} (ht : s.tables.inRange = true)
    (hq : (s.computed g).quality = .good) :
    ∃ l f, (s.computed g).load = some l ∧ (s.computed g).fraction = some f
      ∧ l ≤ 6553 ∧ 100 ≤ (s.groupRec g).rated
      ∧ (l * 1024 < 1025 * (s.groupRec g).rated →
          f * (s.groupRec g).rated ≤ l * 1024 ∧ l * 1024 < (f + 1) * (s.groupRec g).rated)
      ∧ (1025 * (s.groupRec g).rated ≤ l * 1024 → f = 1024)
      ∧ (l = (s.groupRec g).rated → f = 1024) := by
  obtain ⟨b, hc, -, load, fraction⟩ := computed_load_of_good hq
  obtain ⟨record, curve, -⟩ := groupTables_ok ht g
  obtain ⟨rated, -, -⟩ := groupRecOk_ranges record
  have pos : 0 < (s.groupRec g).rated := by omega
  exact ⟨_, _, load, fraction, loadAt_le_of_curveOk curve hc b, rated, fractionOf_floor pos,
    fun h => fractionOf_full pos (by omega), fun h => fractionOf_full pos h.ge⟩

/-- Settles O29: R70 along the curve, and R68, R71, R73 and R74 by the fields of a computed group. -/
theorem loadLaw : Obligations.LoadLaw := by
  refine ⟨⟨fun ps ok hne => loadCurve_law ok hne, ?load⟩, ?fields, fun r f f' ok => ratioOf_mono ok, ?line,
    ?service, fun s g => computed_fraction_law, ?cause⟩
  case load =>
    intro s g hq
    obtain ⟨b, -, bellows, load, -⟩ := computed_load_of_good hq
    exact ⟨b, bellows, load⟩
  case fields =>
    intro s g ht
    simp only [computed_service]
    obtain ⟨record, -, -⟩ := groupTables_ok ht g
    refine ⟨fun f => computed_fraction_le, ?_, fun hq hm => computed_ratio_of_fallback hm hq,
      computed_ratio_of_maintenance, serviceOf_le _ _ (computed_ratio_le ht g), serviceOf_of_le _,
      computed_overload_iff⟩
    intro hq hm
    obtain ⟨f, ratio⟩ := computed_ratio_of_good hm hq
    exact ratio ▸ ratioOf_mem_range record f
  case line =>
    intro r f ok
    obtain ⟨-, knees, -⟩ := groupRecOk_ranges ok
    exact ⟨ratioOf_empty, ratioOf_laden knees,
      fun _ hf => ⟨_, ratioOf_of_lt_laden hf, divHalfUp_bounds _ (by omega)⟩⟩
  case service =>
    intro s g hd
    simp only [computed_service]
    exact ⟨_, serviceOf_of_lt _ hd, divHalfUp_bounds _ (by omega)⟩
  case cause =>
    intro s g
    simp only [computed_cause]
    exact ⟨computed_quality_eq_good, loadCause_of_invalid, loadCause_of_no_curve, fun hv hc =>
      ⟨loadCause_of_unknown hv hc, loadCause_of_suspect hv hc, loadCause_of_good hv hc⟩⟩

end Sys2Proof.Proofs
end

section
/-! What a notice and an offered message change: the queues of LR and the records of NU, and nothing of
any other unit. -/

namespace Sys2Proof.Proofs

open Sys2Proof Sys2Proof.Machine

/-- A state that differs at most in what reports go to: LR and NU. -/
def SameButReports (s t : State) : Prop := ∃ l n, t = (s.setLr l).setNu n

namespace SameButReports

theorem refl (s : State) : SameButReports s s := ⟨s.lr, s.nu, rfl⟩

theorem setLr (s : State) (l : LinkRouter) : SameButReports s (s.setLr l) := ⟨l, s.nu, rfl⟩

theorem setNu (s : State) (n : NoticeUnit) : SameButReports s (s.setNu n) := ⟨s.lr, n, rfl⟩

theorem trans {s t u : State} : SameButReports s t → SameButReports t u → SameButReports s u := by
  rintro ⟨_, _, rfl⟩ ⟨l, n, rfl⟩
  exact ⟨l, n, rfl⟩

theorem bt {s t : State} : SameButReports s t → t.bt = s.bt := by
  rintro ⟨_, _, rfl⟩
  rfl

end SameButReports

theorem judgeLamp_sameButReports (w : Work) : SameButReports w.st (judgeLamp w).st := by
  unfold judgeLamp
  split
  · exact .refl _
  · exact .setNu _ _

@[simp] theorem judgeClasses_st (before : Nat) (w : Work) : (judgeClasses before w).st = w.st := by
  unfold judgeClasses
  split <;> rfl

theorem takeTrigger_sameButReports (k : NoticeKind) (w : Work) :
    SameButReports w.st (takeTrigger k w).st := by
  unfold takeTrigger
  split
  · exact .refl _
  · exact .setNu _ _

theorem recordOccurrence_sameButReports (k : NoticeKind) (d : Half) (w : Work) :
    SameButReports w.st (recordOccurrence k d w).st := by
  refine .trans ?_ (takeTrigger_sameButReports k _)
  rw [judgeClasses_st]
  exact .trans (.setNu _ _) (judgeLamp_sameButReports _)

theorem pushMsg_sameButReports (s : State) (p : Port) (m : QMsg) :
    SameButReports s (pushMsg s p m).1 := by
  unfold pushMsg
  split
  · exact .setLr _ _
  · exact .refl _

theorem raiseUpTo_sameButReports (n : Nat) (k : NoticeKind) (d : Half) (w : Work) :
    SameButReports w.st (raiseUpTo n k d w).st := by
  induction n generalizing k d w with
  | zero => exact recordOccurrence_sameButReports k d w
  | succ n ih =>
    have occurred := recordOccurrence_sameButReports k d w
    have pushed := occurred.trans (pushMsg_sameButReports _ .fl (noticeMsg (recordOccurrence k d w).st k))
    unfold raiseUpTo
    dsimp only
    split
    · exact occurred
    · split
      · exact pushed.trans (ih _ _ _)
      · exact pushed

/-- R147, R148: raising a kind changes only LR and NU. -/
theorem raise_sameButReports (k : NoticeKind) (d : Half) (w : Work) :
    SameButReports w.st (raise k d w).st := raiseUpTo_sameButReports 3 k d w

/-- R21, R22: an offer changes only LR and, by the notice of an overflow, NU. -/
theorem offer_sameButReports (p : Port) (m : QMsg) (w : Work) :
    SameButReports w.st (offer p m w).1.st := by
  have pushed := pushMsg_sameButReports w.st p m
  unfold offer
  dsimp only
  split
  · exact pushed.trans (raise_sameButReports _ _ _)
  · exact pushed

@[simp] theorem offer_bt (p : Port) (m : QMsg) (w : Work) : (offer p m w).1.st.bt = w.st.bt :=
  (offer_sameButReports p m w).bt

end Sys2Proof.Proofs
end

section
/-! The targets of the channels: only setting a target changes it, and it becomes what is set. -/

namespace Sys2Proof.Proofs

open Sys2Proof Sys2Proof.Machine

@[simp] theorem offer_channel (p : Port) (m : QMsg) (w : Work) (d : Fin 6) :
    (offer p m w).1.st.channel d = w.st.channel d :=
  congrArg (·.channels.read d) (offer_bt p m w)

/-- A record written with the target it had leaves every target. -/
theorem setChannel_target {c : Fin 6} {r : ChannelRun} {w : Work}
    (h : r.target = (w.st.channel c).target) (d : Fin 6) :
    ((w.setChannel c r).st.channel d).target = (w.st.channel d).target := by
  change ((w.st.bt.channels.write c r).read d).target = _
  rw [Bank.read_write]
  split
  · next e => exact e ▸ h
  · rfl

@[simp] theorem judgeDeviation_target (c d : Fin 6) (w : Work) :
    ((judgeDeviation c w).st.channel d).target = (w.st.channel d).target := by
  unfold judgeDeviation
  dsimp only
  split
  · split
    · split
      · rfl
      · exact setChannel_target (by rfl) d
    · exact setChannel_target (by rfl) d
  · rfl

/-- R86: offering the command changes no target, whatever becomes of the offer. -/
@[simp] theorem offerCommand_target (c d : Fin 6) (w : Work) :
    ((offerCommand c w).st.channel d).target = (w.st.channel d).target := by
  have kept {r : ChannelRun} (h : r.target = (w.st.channel c).target) :
      (((offer .wb (commandMsg w.st c) w).1.setChannel c r).st.channel d).target
        = (w.st.channel d).target := by
    rw [setChannel_target (by rw [h, offer_channel]), offer_channel]
  have old := congrArg ChannelRun.target (offer_channel .wb (commandMsg w.st c) w c)
  unfold offerCommand
  dsimp only
  split
  · split
    · exact kept old
    · rw [judgeDeviation_target]
      exact kept old
  · exact kept old
  · exact kept old

/-- The first part of `setTarget`: the record written, and SC told of a change. -/
def writeTarget (c : Fin 6) (t : Nat) (w : Work) : Work :=
  if t = (w.st.channel c).target then w
  else (w.setChannel c { w.st.channel c with target := t }).emit (.scTarget c t)

theorem writeTarget_target (c : Fin 6) (t : Nat) (w : Work) :
    ((writeTarget c t w).st.channel c).target = t := by
  unfold writeTarget
  split
  · next h => exact h.symm
  · exact congrArg ChannelRun.target (Bank.read_write_same w.st.bt.channels c _)

/-- R84, R86: the record is written first; then the target is offered, or only the refresh begins. -/
theorem setTarget_eq (c : Fin 6) (t : Nat) (w : Work) :
    setTarget c t w =
      let r := w.st.channel c
      let w1 := writeTarget c t w
      if t ≠ r.target ∨ r.refresh == .stopped then
        if r.lastCommanded ≠ some t then offerCommand c w1
        else if r.refresh == .stopped then
          w1.setChannel c { w1.st.channel c with refresh := .running Config.refreshTime }
        else w1
      else w1 := rfl

/-- R84: a target that is set is the channel's target, offered or not. -/
@[simp] theorem setTarget_target (c : Fin 6) (t : Nat) (w : Work) :
    ((setTarget c t w).st.channel c).target = t := by
  have written := writeTarget_target c t w
  rw [setTarget_eq]
  dsimp only
  split
  · split
    · rwa [offerCommand_target]
    · split
      · rwa [setChannel_target (by rfl)]
      · exact written
  · exact written

/-- R82, R85: outside START a configured channel that is not under test gets the merged target. -/
theorem recomputeChannel_target {w : Work} {c : Fin 6} (hc : (w.st.channel c).configured = true)
    (hm : w.st.du.mode ≠ .start) (hu : w.st.bt.check.under ≠ some c) :
    ((recomputeChannel c w).st.channel c).target = w.st.merged c := by
  rw [recomputeChannel, if_neg (by simp [hc, hm]), if_neg hu, setTarget_target]

end Sys2Proof.Proofs
end

section
/-! The limit (R81) and the steps of the merge (R82, R83). -/

namespace Sys2Proof.Proofs

open Sys2Proof Sys2Proof.Machine

/-- P_ceil in force: the stored one, or its default while GROUPS is invalid. -/
theorem groupsInForce_ceiling (s : State) :
    s.groupsInForce.ceiling = if s.valid .groups then s.tables.groups.ceiling else 850 := by
  unfold State.groupsInForce
  split <;> rfl

/-- R81: a GOOD reservoir bounds the limit by its last value. -/
theorem limit_of_good {s : State} {v : Nat} (hg : (s.record .reservoir).state = .good)
    (hv : (s.record .reservoir).last = some (v : Int)) : s.limit = min s.groupsInForce.ceiling v := by
  have value : s.goodValue .reservoir = some v := by simp [State.goodValue, hg, hv]
  rw [State.limit, value]

/-- R81: a reservoir that is not GOOD has no say. -/
theorem limit_of_not_good {s : State} (hg : (s.record .reservoir).state ≠ .good) :
    s.limit = s.groupsInForce.ceiling := by
  have value : s.goodValue .reservoir = none := if_neg hg
  rw [State.limit, value]

theorem limit_le_ceiling (s : State) : s.limit ≤ s.groupsInForce.ceiling := by
  unfold State.limit
  split
  · exact min_le_left ..
  · exact le_rfl

section merge

variable (service demand : Nat) (deflated : Bool) (cap : Option Nat) (emergency : Bool) (limit : Nat)

/-- R82: in emergency the target is the limit. -/
theorem mergeTarget_emergency : mergeTarget service demand deflated cap true limit = limit :=
  min_self limit

/-- R82, R83: a deflated group with a cap is held to it. -/
theorem mergeTarget_capped (p : Nat) :
    mergeTarget service demand true (some p) false limit = min (min (max service demand) p) limit := rfl

/-- R82, R83: without deflation, or without a cap, the larger input stands. -/
theorem mergeTarget_uncapped {deflated : Bool} {cap : Option Nat} (h : deflated = false ∨ cap = none) :
    mergeTarget service demand deflated cap false limit = min (max service demand) limit := by
  rcases h with rfl | rfl
  · rfl
  · cases deflated <;> rfl

/-- R82: no target is above the limit. -/
theorem mergeTarget_le_limit :
    mergeTarget service demand deflated cap emergency limit ≤ limit := min_le_right ..

end merge

section merged

variable {s : State} {c : Fin 6}

theorem merged_emergency (h : s.du.mode = .emergency) : s.merged c = s.limit := by
  have flag : (s.du.mode == .emergency) = true := beq_iff_eq.2 h
  rw [State.merged, flag, mergeTarget_emergency]

theorem merged_capped {p : Nat} (h : s.du.mode ≠ .emergency)
    (hd : s.tu.deflated.read (groupOf c) = true) (hp : (s.groupRec (groupOf c)).cap = some p) :
    s.merged c = min (min (max (s.lu.read (groupOf c)).service (s.su.demand.read c)) p) s.limit := by
  have flag : (s.du.mode == .emergency) = false := beq_false_of_ne h
  rw [State.merged, flag, hd, hp, mergeTarget_capped]

theorem merged_uncapped (h : s.du.mode ≠ .emergency)
    (hd : s.tu.deflated.read (groupOf c) = false ∨ (s.groupRec (groupOf c)).cap = none) :
    s.merged c = min (max (s.lu.read (groupOf c)).service (s.su.demand.read c)) s.limit := by
  have flag : (s.du.mode == .emergency) = false := beq_false_of_ne h
  rw [State.merged, flag, mergeTarget_uncapped _ _ _ hd]

theorem merged_le_limit (s : State) (c : Fin 6) : s.merged c ≤ s.limit := mergeTarget_le_limit ..

end merged

/-- Settles O31: the limit by the reservoir's record, and the recomputed target as the merge of its
inputs. -/
theorem limitAndMerge : Obligations.LimitAndMerge := by
  refine ⟨fun s => ?limit, fun w c configured started untested => ?merge⟩
  case limit =>
    rw [← groupsInForce_ceiling]
    exact ⟨fun _ => limit_of_good, limit_of_not_good, limit_le_ceiling s⟩
  case merge =>
    rw [recomputeChannel_target configured started untested]
    exact ⟨merged_emergency, fun running deflated _ => merged_capped running deflated, merged_uncapped,
      merged_le_limit _ c⟩

end Sys2Proof.Proofs
end

section
/-! The compensated pressure of a tyre (R105): a rounded quotient, moved and clamped. -/

namespace Sys2Proof.Proofs

open Sys2Proof Sys2Proof.Machine

/-- A whole quotient is not changed by rounding. -/
@[simp] theorem divHalfUp_mul_self (a : Nat) {b : Nat} (hb : 0 < b) : divHalfUp (a * b) b = a :=
  Nat.div_eq_of_lt_le (by linarith) (by linarith)

/-- `divHalfUp_bounds` over the integers, as the rules state the bounds of a rounded quotient. -/
theorem divHalfUp_bounds_int (a : Nat) {b : Nat} (hb : 0 < b) :
    2 * (a : Int) < (2 * (divHalfUp a b : Int) + 1) * b
      ∧ (2 * (divHalfUp a b : Int) - 1) * b ≤ 2 * (a : Int) := by
  obtain ⟨below, above⟩ := divHalfUp_bounds a hb
  zify at below above
  constructor <;> linarith

/-- Natural subtraction is the clamp at 0, so the minimum leaves only the upper clamp to do. -/
theorem natCast_min_sub_eq_clampInt (n k hi : Nat) :
    ((min (n - k) hi : Nat) : Int) = clampInt 0 hi (n - k) := by
  unfold clampInt
  split_ifs <;> omega

/-- R105, steps 2 and 3: the rounded quotient less 101, clamped to 0..1400. -/
theorem compensate_eq_clampInt (p : Nat) (t : Int) :
    (compensate p t : Int)
      = clampInt 0 1400 ((divHalfUp ((p + 101) * 293) (t + 273).toNat : Int) - 101) :=
  natCast_min_sub_eq_clampInt _ 101 Config.tyreMax

/-- R105, step 1: down to -40 degrees the divisor is positive, and the quotient is the rounded one. -/
theorem compensate_quotient (p : Nat) {t : Int} (ht : -40 ≤ t) :
    ∃ a : Int, 2 * (((p : Int) + 101) * 293) < (2 * a + 1) * (t + 273)
      ∧ (2 * a - 1) * (t + 273) ≤ 2 * (((p : Int) + 101) * 293)
      ∧ (compensate p t : Int) = clampInt 0 1400 (a - 101) := by
  have divisor : ((t + 273).toNat : Int) = t + 273 := Int.toNat_of_nonneg (by omega)
  obtain ⟨above, below⟩ := divHalfUp_bounds_int ((p + 101) * 293) (by omega : 0 < (t + 273).toNat)
  rw [divisor] at above below
  exact ⟨_, mod_cast above, mod_cast below, compensate_eq_clampInt p t⟩

/-- R105: at 20 degrees the divisor is the factor 293, and the pressure is its own compensation. -/
theorem compensate_reference {p : Nat} (hp : p ≤ 1400) : compensate p 20 = p := by
  have quotient : divHalfUp ((p + 101) * 293) ((20 : Int) + 273).toNat = p + 101 :=
    divHalfUp_mul_self (p + 101) (by decide)
  rw [compensate, quotient, Nat.add_sub_cancel]
  exact min_eq_left hp

end Sys2Proof.Proofs
end

section
/-! The pressure bands (R106). The margin is a move of the edges: each state before the report is banded as
the raw band is, by edges of its own. -/

namespace Sys2Proof.Proofs

open Sys2Proof Sys2Proof.Machine

/-- The ranges of R101 that keep the edges apart: even with their margins they stay in order. -/
theorem tyreSettingsOk_edges {t : WheelsTable} (h : tyreSettingsOk t = true) :
    t.qDefl < t.qLow ∧ t.qLow + 70 ≤ t.qHigh := by
  simp only [tyreSettingsOk, within, Bool.and_eq_true, decide_eq_true_eq] at h
  obtain ⟨⟨⟨⟨⟨⟨⟨-, low⟩, -⟩, deflated⟩, ⟨high, -⟩⟩, -⟩, -⟩, -⟩ := h
  omega

/-- R106: between edges in order, each raw band is one interval. -/
theorem rawBand_intervals {t : WheelsTable} (hd : t.qDefl ≤ t.qLow) (hl : t.qLow ≤ t.qHigh) (q : Nat) :
    (rawBand t q = .deflated ↔ q < t.qDefl) ∧ (rawBand t q = .low ↔ t.qDefl ≤ q ∧ q < t.qLow) ∧
    (rawBand t q = .high ↔ t.qHigh ≤ q) ∧ (rawBand t q = .normal ↔ t.qLow ≤ q ∧ q < t.qHigh) := by
  unfold rawBand
  split_ifs <;> simp only [true_iff, false_iff] <;> omega

section edges

variable (t : WheelsTable) (q : Nat)

/-- R106: a record that is UNHEARD, MISSING or NORMAL has no margin. -/
theorem bandAfter_unheard_missing_normal {b : WheelState}
    (hb : b = .unheard ∨ b = .missing ∨ b = .normal) : bandAfter t b q = rawBand t q := by
  rcases hb with rfl | rfl | rfl <;> rfl

/-- R106: LOW is left upward only past its upper edge and the margin. -/
theorem bandAfter_low : bandAfter t .low q = rawBand { t with qLow := t.qLow + 20 } q := rfl

/-- R106: out of DEFLATED, DEFLATED and LOW both reach up by the margin. -/
theorem bandAfter_deflated :
    bandAfter t .deflated q = rawBand { t with qDefl := t.qDefl + 20, qLow := t.qLow + 20 } q := by
  simp only [bandAfter, rawBand, Config.bandMargin]
  by_cases leaves : t.qDefl + 20 ≤ q ∧ t.qLow + 20 ≤ q
  · have aboveDefl : ¬ q < t.qDefl := by omega
    have aboveLow : ¬ q < t.qLow := by omega
    simp only [aboveDefl, aboveLow, if_false]
  · rcases not_and_or.1 leaves with inDefl | inLow
    · simp only [not_le.1 inDefl, if_true]
    · simp only [not_le.1 inLow, if_true]

end edges

/-- R106: HIGH reaches down by the margin, which does not touch LOW. -/
theorem bandAfter_high {t : WheelsTable} (hd : t.qDefl ≤ t.qLow) (hl : t.qLow + 20 ≤ t.qHigh) (q : Nat) :
    bandAfter t .high q = rawBand { t with qHigh := t.qHigh - 20 } q := by
  have edge : t.qHigh ≤ q + Config.bandMargin ↔ t.qHigh - 20 ≤ q := Nat.sub_le_iff_le_add.symm
  simp only [bandAfter, rawBand, edge]
  by_cases stays : t.qHigh - 20 ≤ q
  · have aboveDefl : ¬ q < t.qDefl := by omega
    have aboveLow : ¬ q < t.qLow := by omega
    simp only [stays, aboveDefl, aboveLow, if_true, if_false]
  · have belowHigh : ¬ t.qHigh ≤ q := by omega
    simp only [stays, belowHigh, if_false]

/-- Settles O35: the rounded quotient and its clamp, and the bands as intervals between moved edges. -/
theorem compensationAndBands : Obligations.CompensationAndBands := by
  refine ⟨⟨fun p t _ cold _ => ⟨by omega, compensate_quotient p cold⟩, fun _ => compensate_reference,
    ?workedRows⟩, fun t q settings => ?bands⟩
  case workedRows => decide
  case bands =>
    obtain ⟨deflLow, lowHigh⟩ := tyreSettingsOk_edges settings
    obtain ⟨-, lowStays, -, lowEnds⟩ :=
      rawBand_intervals (t := { t with qLow := t.qLow + 20 }) (by dsimp only; omega) (by dsimp only; omega) q
    obtain ⟨deflatedStays, deflatedRises, -, -⟩ :=
      rawBand_intervals (t := { t with qDefl := t.qDefl + 20, qLow := t.qLow + 20 })
        (by dsimp only; omega) (by dsimp only; omega) q
    obtain ⟨-, highFalls, highStays, -⟩ :=
      rawBand_intervals (t := { t with qHigh := t.qHigh - 20 }) (by dsimp only; omega) (by dsimp only; omega) q
    rw [bandAfter_low, bandAfter_deflated, bandAfter_high (by omega) (by omega)]
    refine ⟨fun b direct => ?direct, lowEnds, lowStays, deflatedStays, deflatedRises,
      highStays.trans Nat.sub_le_iff_le_add, highFalls⟩
    rw [bandAfter_unheard_missing_normal t q direct]
    exact rawBand_intervals (by omega) (by omega) q

end Sys2Proof.Proofs
end
